-- ==== Sys2Proof/Word.lean ====
section
/-! DEFINITION. The words of the block: a byte, a page of 64 bytes, a sector image of 16 pages, and the numbers of
pages, sectors, lines, banks and journal sectors (R1 to R3, R17). -/

namespace Sys2Proof

/-- One byte. -/
abbrev Byte := BitVec 8

/-- The 64 bytes of a page, byte position 0 first (R1). -/
abbrev Page := Vector Byte 64

/-- A sector image: 16 pages of 64 bytes (R2, R64). -/
abbrev Image := Vector Page 16

/-- The staged bytes of a line: position `x` is `some b` when `x` is in the valid set and the data byte there is `b`
(R17). A position outside the valid set carries no value (R24), so none is kept. -/
abbrev Staged := Vector (Option Byte) 64

/-- A page of the window, 0 to 4095 (R1). -/
abbrev PageNo := Fin 4096

/-- A user sector, 0 to 255 (R2). -/
abbrev SectorNo := Fin 256

/-- The index of a staging line, 0 to 7 (R17). -/
abbrev LineNo := Fin 8

/-- The two banks of the cell array (R2). -/
inductive Bank where
  | bank0
  | bank1
deriving DecidableEq, Repr

/-- The two journal sectors: `j0` lies in bank 0, `j1` in bank 1 (R3). -/
inductive Journal where
  | j0
  | j1
deriving DecidableEq, Repr

/-- One value for bank 0 (or J0) and one for bank 1 (or J1). -/
structure PerBank (α : Type) where
  zero : α
  one  : α
deriving DecidableEq, Repr

/-- The value of bank `b`. -/
def PerBank.get {α : Type} (p : PerBank α) : Bank → α
  | .bank0 => p.zero
  | .bank1 => p.one

/-- `p` with the value of bank `b` replaced. -/
def PerBank.set {α : Type} (p : PerBank α) (b : Bank) (v : α) : PerBank α :=
  match b with
  | .bank0 => { p with zero := v }
  | .bank1 => { p with one := v }

end Sys2Proof
end

