-- ==== Sys2Proof/Syntax.lean ====
section
/-! DEFINITION. The commands of the block: one constructor of `Instr` per row of spec/opcode_table.json. The table gives
no operands; each operand is one its row's rules name. -/

namespace Sys2Proof

/-- Read or write (R127). -/
inductive Direction where
  | read
  | write
deriving DecidableEq, Repr

/-- A port transaction as its pins carry it (R127): the address of its lowest byte on 18 lines, its size in bytes, its
direction, the four lane strobes (bit i for lane i) and the four data lanes (byte i on lane i). -/
structure Transaction where
  address   : BitVec 18
  size      : Nat
  direction : Direction
  strobes   : BitVec 4
  data      : BitVec 32
deriving DecidableEq, Repr

/-- How far the cells moved, which is the cells' own affair (R4): a list of (byte offset in the pulsed page or sector,
mask). `CellPages` reads it by R8, R9 and R15: every result those rules allow is the result of some list, and no list
gives another (log 3). -/
abbrev PulseResidue := List (Nat × Byte)

/-- The commands: one per row of spec/opcode_table.json. -/
inductive Instr where
  /-- POWER_ON (R139). -/
  | powerOn (left : PulseResidue)
  /-- RESET_PIN (R139): RESETn falls. -/
  | resetPin (left : PulseResidue)
  /-- RESET_RELEASE (R140). -/
  | resetRelease
  /-- LINK_COMMAND_RESET (R183). -/
  | linkCommandReset (left : PulseResidue)
  /-- PWARN_ASSERTED (R147). -/
  | pwarnAsserted
  /-- PWARN_DEASSERTED (R149). -/
  | pwarnDeasserted
  /-- PORT_TRANSACTION (R130): the transaction is presented at the port. -/
  | portTransaction (t : Transaction)
  /-- HOLD_TIMER_EXPIRY (R131). -/
  | holdTimerExpiry
  /-- START_HOLD_RESUME (R132). -/
  | startHoldResume
  /-- HELD_WRITE_RETAKEN (R29). -/
  | heldWriteRetaken
  /-- HELD_READ_EVALUATED (R91). -/
  | heldReadEvaluated
  /-- THROUGH_ANSWER (R134). -/
  | throughAnswer
  /-- AGE_TIMER_EXPIRY (R33). -/
  | ageTimerExpiry
  /-- SETUP_EXPIRY (R10). -/
  | setupExpiry
  /-- PULSE_EXPIRY (R10), with what the pulse left in the cells (R8, R9). -/
  | pulseExpiry (left : PulseResidue)
  /-- HOLD_EXPIRY (R10). -/
  | holdExpiry
  /-- READ_PAGE_COMPLETE (R6). -/
  | readPageComplete
  /-- BLANK_CHECK_COMPLETE (R7). -/
  | blankCheckComplete
  /-- COMMIT (R46). -/
  | commit
  /-- RESTORE (R108). -/
  | restore
  /-- CLOSE_JOB (R112). -/
  | closeJob
  /-- REPLAY (R143). -/
  | replay
  /-- END_OF_STARTUP (R145). -/
  | endOfStartup
  /-- DRAINED (R148). -/
  | drained
  /-- FLUSH_DEFERRED_RESPONSE (R177). -/
  | flushDeferredResponse
  /-- SYNC_BYTE (R162): the candidate byte has been received; the time from its first to its fifth falling edge in
  nanoseconds, the byte as read at that rate and its stop bit. -/
  | syncByte (measured : Nat) (byte : Byte) (stop : Bool)
  /-- SYNC_CANDIDATE_TIMEOUT (R162). -/
  | syncCandidateTimeout
  /-- GAP (R163). -/
  | gap
  /-- FRAMING_ERROR (R164). -/
  | framingError
  /-- QUIET_WAIT_END (R164). -/
  | quietWaitEnd
  /-- BREAK (R165). -/
  | breakRecognised
  /-- OVERRUN (R166): the first start bit of a frame comes; an overrun while the buffered frame is held, else the frame begins
  (R161). -/
  | overrun
  /-- LENGTH_FAULT_FRAME (R163): the first three bytes of a frame whose LEN is above 12. -/
  | lengthFaultFrame (cmd tag len : Byte)
  /-- BAD_COMMAND (R167): a request frame, CHECK right, whose CMD is no known code. -/
  | badCommand (cmd tag : Byte) (args : List Byte)
  /-- RESPONSE_SENT (R166). -/
  | responseSent
  /-- IDENT (R173). -/
  | ident (tag : Byte)
  /-- STATUS (R174). -/
  | status (tag : Byte)
  /-- GET_REGION (R175). -/
  | getRegion (tag n : Byte)
  /-- SET_REGION (R117): entry number and the bytes of a region record. -/
  | setRegion (tag n valid : Byte) (base limit : BitVec 16) (kind delay : Byte)
  /-- GET_SETTINGS (R176). -/
  | getSettings (tag : Byte)
  /-- SET_SETTING (R176). -/
  | setSetting (tag field value : Byte)
  /-- FLUSH (R177). -/
  | flush (tag wait : Byte)
  /-- READ_FAULT (R178). -/
  | readFault (tag : Byte)
  /-- ACK_FAULT (R155). -/
  | ackFault (tag : Byte) (seq : BitVec 16) (clear : Byte)
  /-- RETRY_PAGE (R101). -/
  | retryPage (tag : Byte) (page : BitVec 16)
  /-- DISCARD_PAGE (R102). -/
  | discardPage (tag : Byte) (page : BitVec 16)
  /-- RESTORE_SECTOR (R182). -/
  | restoreSector (tag bank : Byte)
  /-- DROP_JOURNAL (R182). -/
  | dropJournal (tag bank : Byte)
  /-- RESET_PART (R183). -/
  | resetPart (tag : Byte)
  /-- BYTE_RECEIVED (R163): a byte whose stop bit is sampled at 1. -/
  | byteReceived (byte : Byte)
  /-- SYNC_CANDIDATE_BEGIN (R162). -/
  | syncCandidateBegin
  /-- SYNC_ANSWER_SENT (R162). -/
  | syncAnswerSent
deriving DecidableEq, Repr

end Sys2Proof
end

