-- ==== Sys2Proof/Config.lean ====
section
/-! DEFINITION. What the spec leaves to the part or leaves open: the byte an unlisted cell reads as, and the three free
values of the model. Nothing in Lean can say what a free value is. -/

namespace Sys2Proof

/-- What a cell reads as that no pulse has changed. An erased cell byte reads FFh (R4). That a cell nothing has
pulsed reads FFh too is DESIGN CHOICE (log 4, unsafe): the part assumes no content in them (chapter 1.2). -/
def Config.erasedByte : Byte := 0xFF#8

/-- FREE VALUE (log 9, safe). R91 leaves open which is taken first when a completion moved a held read's need to the
other bank and the sequencer's next operation names that bank: `true` when the start of the operation is taken first
(the read stays held), `false` when the evaluation is (the read is served). Applied to the state's counter
`freeIndex`, which advances at each use. -/
opaque Config.startTakenFirst : Nat → Bool

/-- FREE VALUE (log 11, safe). R165 leaves open whether a break or the execution of the request that the command unit holds is taken
first: `true` when the break is. Applied to the state's counter `freeIndex`, which advances at each use. -/
opaque Config.breakTakenFirst : Nat → Bool

/-- FREE VALUE (log 26, safe). Which byte of a response is on STX when a break comes (R165) depends on how long the response has been
sent, and the model counts no time (log 6). Applied to the state's counter `freeIndex`, which advances at each use, and taken modulo the
number of bytes. -/
opaque Config.byteOnStx : Nat → Nat

end Sys2Proof
end

