-- ==== Sys2Proof/Machine/State.lean ====
section
/-! DEFINITION. The state of the block as plain data, block by block as section 3 of the scope lists them, and the state
right after a power-on reset. -/

namespace Sys2Proof.Machine

/-! ## The cell array and the operation record (chapter 1) -/

/-- The cells that some pulse has changed: (key, byte), rising keys, no byte equal to `Config.erasedByte`. Keys 0 to
262,143 are the window's addresses; the journal sectors follow (log 5). -/
abbrev Memory := List Host.Cell

/-- The unit of an erase pulse and of a blank check: a user sector or a journal sector (R5). -/
inductive Target where
  | user (s : SectorNo)
  | journal (j : Journal)
deriving DecidableEq, Repr

/-- The unit of a program pulse and of a read page: a page of a user sector, or page 0 to 16 of a journal sector (R5). -/
inductive CellPage where
  | user (p : PageNo)
  | journal (j : Journal) (k : Fin 17)
deriving DecidableEq, Repr

/-- The phase of a pulse and its sampled width in µs, present from the start of the pulse phase (R10, R11). -/
inductive PulsePhase where
  | setup
  | pulse (width : Nat)
  | hold (width : Nat)
deriving DecidableEq, Repr

/-- The operation record (section 1.3): kind, target, page, latch, phase and sampled width. Its bank is computed. -/
inductive CellOp where
  | readPage (page : CellPage)
  | blankCheck (target : Target)
  | programPulse (page : CellPage) (latch : Page) (phase : PulsePhase)
  | erasePulse (target : Target) (phase : PulsePhase)
deriving DecidableEq, Repr

/-! ## The staging buffer (chapter 2) -/

/-- The five line states (R17). -/
inductive LineState where
  | free
  | open
  | sealed
  | committing
  | failed
deriving DecidableEq, Repr

/-- The line record (R17). Its index is its place in `State.lines`. -/
structure Line where
  state   : LineState
  page    : Option PageNo
  staged  : Staged
  age     : Nat
  through : Bool
deriving DecidableEq, Repr

/-- A FREE line: page absent, valid set empty, age 0, through false (R18, R37). -/
def Line.cleared : Line :=
  { state := .free, page := none, staged := Vector.replicate 64 none, age := 0, through := false }

/-! ## The cell sequencer (chapters 3, 4 and 6) -/

/-- The kinds of job (R41). -/
inductive JobKind where
  | commit
  | rewrite
  | restore
  | close
  | replay
deriving DecidableEq, Repr

/-- The step a job has reached, with the page in hand where the step works page by page (R41, R63, R108, R143). MERGE and
RETIRE are taken whole inside a step (R71, R79), so no job rests in them. -/
inductive Stage where
  | preRead
  | program
  | journalCheck
  | load (k : Fin 16)
  | copy (k : Fin 16)
  | header
  | copyDone
  | scrub
  | loadCopy (k : Fin 16)
  | targetErase
  | targetProgram (k : Fin 16)
  | close
  | closeErase
deriving DecidableEq, Repr

/-- The running program loop (page, target image, latch, pulses applied) or erase loop (sector, pulses applied): R50,
R56. -/
inductive Loop where
  | program (page : CellPage) (image latch : Page) (pulses : Nat)
  | erase (target : Target) (pulses : Nat)
deriving DecidableEq, Repr

/-- The steps in which a rewrite may fail with its target untouched (R63). -/
inductive FailedStep where
  | copy
  | header
  | copyDone
deriving DecidableEq, Repr

/-- The job record (R41, R63). Its bank and its journal are computed from its sector (R2, R3, R63). -/
structure Job where
  kind        : JobKind
  head        : Option LineNo
  members     : List LineNo
  page        : Option PageNo
  sector      : SectorNo
  stage       : Stage
  loop        : Option Loop
  copyCheck   : Option (BitVec 16)
  headerImage : Option Page
  failedStep  : Option FailedStep
deriving DecidableEq, Repr

/-- The rebuild buffer (R64): EMPTY has no sector and no bytes. -/
inductive RebuildBuffer where
  | empty
  | assembling (sector : SectorNo) (image : Image)
  | loaded (sector : SectorNo) (image : Image)
deriving DecidableEq, Repr

/-- The run-time state of a journal sector (R65). -/
inductive JournalState where
  | unknown
  | blank
  | spent
  | openFor (sector : SectorNo)
deriving DecidableEq, Repr

/-- Where reads of a quarantined sector take their ground (R104). -/
inductive Ground where
  | copy
  | cells
deriving DecidableEq, Repr

/-- The pending recovery job of a quarantine record (R104). -/
inductive PendingJob where
  | none
  | restore
  | close
deriving DecidableEq, Repr

/-- The quarantine record of one bank (R104). -/
structure QuarantineRecord where
  sector  : Option SectorNo
  ground  : Ground
  pending : PendingJob
deriving DecidableEq, Repr

/-! ## The region table and the settings (chapters 7 and 12) -/

/-- The four access kinds (section 7.3). -/
inductive AccessKind where
  | buffered
  | through
  | readOnly
  | noAccess
deriving DecidableEq, Repr

/-- A region entry (R116); `delay` is the delay override. -/
structure Region where
  valid : Bool
  base  : PageNo
  limit : PageNo
  kind  : AccessKind
  delay : Option Nat
deriving DecidableEq, Repr

/-- A region entry after reset (R116). -/
def Region.afterReset : Region :=
  { valid := false, base := 0, limit := 4095, kind := .buffered, delay := none }

/-- The operating settings (R176). -/
structure Settings where
  tick        : Nat
  delay       : Nat
  pgmPulse    : Nat
  pgmMax      : Nat
  ersPulse    : Nat
  ersMax      : Nat
  holdLimit   : Nat
  defaultKind : AccessKind
deriving DecidableEq, Repr

/-- The settings after reset (R176). -/
def Settings.afterReset : Settings :=
  { tick := 20, delay := 4, pgmPulse := 20, pgmMax := 4, ersPulse := 4, ersMax := 6, holdLimit := 64,
    defaultKind := .buffered }

/-! ## The system port (chapter 8) -/

/-- What a hold waits for (R131). -/
inductive HoldCause where
  | start
  | line
  | bank
deriving DecidableEq, Repr

/-- The port state with its transaction record: the items of R127, the access kind found at the lookup, the hold's cause
and the hold timer's load in µs (R131), or the line a THROUGH write waits on (R134). -/
inductive PortState where
  | idle
  | held (t : Transaction) (kind : AccessKind) (cause : HoldCause) (timer : Nat)
  | commitWait (t : Transaction) (kind : AccessKind) (line : LineNo)
deriving DecidableEq, Repr

/-- The reasons a REFUSED entry may carry (R135, R153). -/
inductive RefusedReason where
  | align
  | noAccess
  | readOnly
  | failedPage
  | quarantine
  | stageFull
  | holdLimit
  | starting
deriving DecidableEq, Repr

/-- The reasons of an ERROR (R135). DRAIN and COMMIT_FAIL make no entry in any state. -/
inductive Reason where
  | refused (r : RefusedReason)
  | drain
  | commitFail
deriving DecidableEq, Repr

/-- The answer on the bus (R128): OKAY with a byte for each lane used of a read, or ERROR. The bus carries no reason; the
model keeps the one the manual names (log 15). -/
inductive PortAnswer where
  | okay (lanes : List (Nat × Byte))
  | error (reason : Reason)
deriving DecidableEq, Repr

/-! ## Front-end control (chapter 9) -/

/-- The front-end state (R138); `inReset` is "none", while the part is held in reset. -/
inductive FrontEnd where
  | inReset
  | starting
  | ready
  | draining
  | drained
deriving DecidableEq, Repr

/-- The reset cause record (R139). -/
inductive ResetCause where
  | powerOn
  | resetPin
  | linkCommand
deriving DecidableEq, Repr

/-- The step of the start-up scan (R140, R141): a blank check or a header read of a journal, the read of copy page
`next + 1` with the header's target and copy check and the sum so far, the replay step of a journal, or ended. -/
inductive Scan where
  | off
  | blankCheck (j : Journal)
  | headerRead (j : Journal)
  | copyRead (j : Journal) (target : SectorNo) (check : BitVec 16) (next : Fin 16) (sum : BitVec 16)
  | replay (j : Journal)
  | ended
deriving DecidableEq, Repr

/-! ## The fault log (chapter 10) -/

/-- Why a program loop failed (R51). -/
inductive LoopFailure where
  | exhausted
  | disturbed
deriving DecidableEq, Repr

/-- The steps a fault entry names (section 11.6). -/
inductive FaultStep where
  | erase
  | copy
  | header
  | copyDone
  | close
  | program
deriving DecidableEq, Repr

/-- The nine kinds of fault entry with their fields (R153). -/
inductive FaultKind where
  | refused (address : BitVec 18) (direction : Direction) (reason : RefusedReason)
  | programFail (page : PageNo) (cause : LoopFailure) (pulses linesFailed : Nat)
  | journalFail (journal : Journal) (step : FaultStep) (target : SectorNo) (linesFailed : Nat)
  | journalHeld (page : PageNo) (journal : Journal) (linesFailed : Nat)
  | quarantined (sector : SectorNo) (step : FaultStep) (pulses : Nat)
  | replayed (sector : SectorNo)
  | restored (sector : SectorNo)
  | restoreFail (sector : SectorNo)
  | journalCorrupt (journal : Journal) (target : BitVec 16)
deriving DecidableEq, Repr

/-- A fault entry (R152). -/
structure FaultEntry where
  seq  : BitVec 16
  kind : FaultKind
deriving DecidableEq, Repr

/-- The fault log (R152); the next sequence number counts modulo 65536. -/
structure FaultLog where
  entries : List FaultEntry
  dropped : Nat
  nextSeq : BitVec 16
deriving DecidableEq, Repr

/-! ## The service link and the command unit (chapters 11 and 12) -/

/-- The link states (R161). -/
inductive LinkState where
  | syncWait
  | idle
  | receiving
  | busy
deriving DecidableEq, Repr

/-- A complete request frame (R163): whole, or ended at a LEN above 12 and marked with a length fault. -/
inductive Frame where
  | whole (cmd tag len : Byte) (args : List Byte) (check : Byte)
  | lengthFault (cmd tag len : Byte)
deriving DecidableEq, Repr

/-- The frame in progress: the bytes received so far, or, for an overrun frame of which no byte is kept, how many have
come and its LEN byte (R163, R166). -/
inductive FrameInProgress where
  | keeping (bytes : List Byte)
  | overrun (received : Nat) (len : Option Byte)
deriving DecidableEq, Repr

/-- The statuses of a response (section 11.6). -/
inductive Status where
  | ok
  | badCheck
  | badCommand
  | badLength
  | range
  | state
  | stale
  | busy
  | empty
deriving DecidableEq, Repr

/-- A response the command unit has built, before its FLAGS byte; `resets` marks RESET_PART's (R183). -/
structure Response where
  status : Status
  tag    : Byte
  data   : List Byte
  resets : Bool
deriving DecidableEq, Repr

/-- What the transmitter does: rests, sends the sync answer 55h (with a response built behind it, R162), or sends the
bytes of a response. -/
inductive Transmitter where
  | resting
  | syncAnswer (behind : Option Response)
  | response (bytes : List Byte) (resets : Bool)
deriving DecidableEq, Repr

/-- The link record (R161), the sync candidate (R162), the transmitter, and the byte of an abandoned response that STX still completes
(R165, log 26). The bit time is held as the time of eight bit times in nanoseconds (log 13). -/
structure Link where
  state        : LinkState
  bitTime      : Option Nat
  candidate    : Bool
  frame        : Option FrameInProgress
  buffered     : Option Frame
  quietWait    : Bool
  overrunFlag  : Bool
  framingFlag  : Bool
  transmitter  : Transmitter
  completing   : Option Byte
deriving DecidableEq, Repr

/-- The link after reset (R161, R170). -/
def Link.afterReset : Link :=
  { state := .syncWait, bitTime := none, candidate := false, frame := none, buffered := none, quietWait := false,
    overrunFlag := false, framingFlag := false, transmitter := .resting, completing := none }

/-- The command unit: the request it holds and has yet to execute (section 3 of the scope, R165, log 11), the TAG of a FLUSH whose
response is deferred (R169), and whether RESET_PART's reset is due, its response having been sent or abandoned (R139, R183). -/
structure CommandUnit where
  request  : Option Frame
  deferred : Option Byte
  resetDue : Bool
deriving DecidableEq, Repr

/-! ## The state -/

/-- The state of the block. -/
structure State where
  /-- The commands that wait, first in first out. -/
  pending     : List Instr
  /-- The cell array (R1 to R4). -/
  cells       : Memory
  /-- The operation record (R5). -/
  op          : Option CellOp
  /-- The job record (R41). -/
  job         : Option Job
  /-- The rebuild buffer (R64). -/
  buffer      : RebuildBuffer
  /-- The run-time states of J0 and J1 (R65). -/
  journals    : PerBank JournalState
  /-- The quarantine records of the two banks (R104). -/
  quarantine  : PerBank QuarantineRecord
  /-- The eight staging lines (R17). -/
  lines       : Vector Line 8
  /-- The age list, oldest opened first (R19). -/
  ageList     : List LineNo
  /-- The commit queue, oldest sealed first (R20). -/
  commitQueue : List LineNo
  /-- The age timer: STOPPED, or RUNNING with its sampled period in µs (R32). -/
  ageTimer    : Option Nat
  /-- The region table (R116). -/
  regions     : Vector Region 8
  /-- The settings (R176). -/
  settings    : Settings
  /-- The port state and its transaction record (R127). -/
  port        : PortState
  /-- The answer last given on the bus, none once a further transaction is taken (R128, log 15). -/
  portAnswer  : Option PortAnswer
  /-- The transactions presented at the bus and not yet taken, first presented first (R127, log 7). -/
  bus         : List Transaction
  /-- The front-end state (R138). -/
  frontEnd    : FrontEnd
  /-- The reset cause record (R139). -/
  resetCause  : ResetCause
  /-- The level of the PWARN input, true when asserted. -/
  pwarn       : Bool
  /-- The PWARN level as front-end control noted it (R138). -/
  pwarnNoted  : Bool
  /-- The level of the RESETn input, true when low (R139). -/
  resetnLow   : Bool
  /-- The start-up scan (R140). -/
  scan        : Scan
  /-- The fault log (R152). -/
  log         : FaultLog
  /-- The service link (R161). -/
  link        : Link
  /-- The command unit. -/
  unit        : CommandUnit
  /-- The model's own counter of free values used (log 9). -/
  freeIndex   : Nat
deriving DecidableEq, Repr

/-- The quarantine record after reset (R104). -/
def QuarantineRecord.afterReset : QuarantineRecord := { sector := none, ground := .copy, pending := .none }

/-- The fault log after reset (R159). -/
def FaultLog.afterReset : FaultLog := { entries := [], dropped := 0, nextSeq := 0 }

/-- The machine right after a power-on reset and before its release (R16, R40, R62, R104, R115, R116, R137 to R139, R159,
R161, R176). Cells never pulsed: log 4. Levels of the input pins: log 10. -/
def State.reset : State :=
  { pending := [], cells := [], op := none, job := none, buffer := .empty,
    journals := { zero := .unknown, one := .unknown },
    quarantine := { zero := .afterReset, one := .afterReset },
    lines := Vector.replicate 8 Line.cleared, ageList := [], commitQueue := [], ageTimer := none,
    regions := Vector.replicate 8 Region.afterReset, settings := .afterReset,
    port := .idle, portAnswer := none, bus := [],
    frontEnd := .inReset, resetCause := .powerOn, pwarn := false, pwarnNoted := false, resetnLow := false,
    scan := .off, log := .afterReset, link := .afterReset, unit := { request := none, deferred := none, resetDue := false },
    freeIndex := 0 }

/-! ## Why a step may stop -/

/-- Why a command may end in a fault: there is no constructor, because no rule of the spec stops the part. A failed job,
a refused transaction and a faulty frame all leave a next state (inventory, Faults). Safe and unsafe do not arise. -/
inductive Fault where
deriving DecidableEq, Repr

/-- Why a command may be refused. -/
inductive Refusal where
  /-- Raised by `exec`'s arm of a command that has no meaning yet, with its mnemonic. Safe: the model stops where the part
  goes on. No arm raises it. -/
  | notModelled (mnemonic : String)
deriving DecidableEq, Repr

end Sys2Proof.Machine
end

