-- ==== Sys2Proof/Machine/Geometry.lean ====
section
/-! DEFINITION. Geometry: pages, sectors, banks and journal sectors from one another (R1 to R3), and the keys of the cell
bytes in `Memory`. -/

namespace Sys2Proof.Machine

/-- The page of an address: the address divided by 64, rounded down (R1). -/
def pageOf (a : BitVec 18) : PageNo := ⟨a.toNat / 64, by omega⟩

/-- The byte position of an address in its page: the remainder (R1). -/
def positionOf (a : BitVec 18) : Nat := a.toNat % 64

/-- The user sector of a page: the page divided by 16, rounded down (R2). -/
def sectorOf (p : PageNo) : SectorNo := ⟨p.val / 16, by omega⟩

/-- The page within its sector: the page's remainder by 16 (section 1.1). -/
def pageInSector (p : PageNo) : Fin 16 := ⟨p.val % 16, by omega⟩

/-- Page `k` of user sector `s`: page 16 × s + k (R2). -/
def sectorPage (s : SectorNo) (k : Fin 16) : PageNo := ⟨16 * s.val + k.val, by omega⟩

/-- The bank of a user sector: bank 0 holds sectors 0 to 127 (R2). -/
def bankOf (s : SectorNo) : Bank := if s.val < 128 then .bank0 else .bank1

/-- The bank other than `b`. -/
def otherBank : Bank → Bank
  | .bank0 => .bank1
  | .bank1 => .bank0

/-- The bank a journal sector lies in: J0 in bank 0, J1 in bank 1 (R3). -/
def journalBank : Journal → Bank
  | .j0 => .bank0
  | .j1 => .bank1

/-- The journal sector that lies in a bank (R3). -/
def journalIn : Bank → Journal
  | .bank0 => .j0
  | .bank1 => .j1

/-- The journal a rewrite of sector `s` uses: the journal sector of the other bank (R3, R63). -/
def journalFor (s : SectorNo) : Journal := journalIn (otherBank (bankOf s))

/-- The journal page that holds the copy of page `k`: copy page k + 1 (R3). -/
def copyPage (j : Journal) (k : Fin 16) : CellPage := .journal j ⟨k.val + 1, by omega⟩

/-- The header of a journal sector: its page 0 (R3). -/
def headerPage (j : Journal) : CellPage := .journal j 0

/-- The key of byte 0 of a journal sector, past the window's 262,144 addresses (log 5). -/
def journalBase : Journal → Nat
  | .j0 => 262144
  | .j1 => 263232

/-- The key of byte 0 of a page. For a user page it is the address of its first byte, 64 × p (R1). -/
def CellPage.base : CellPage → Nat
  | .user p => 64 * p.val
  | .journal j k => journalBase j + 64 * k.val

/-- The key of byte 0 of a sector. -/
def Target.base : Target → Nat
  | .user s => 1024 * s.val
  | .journal j => journalBase j

/-- The bytes of a sector: 1,024, or 1,088 for a journal sector (R7, R9). -/
def Target.size : Target → Nat
  | .user _ => 1024
  | .journal _ => 1088

/-- The bank of a sector (R12). -/
def Target.bank : Target → Bank
  | .user s => bankOf s
  | .journal j => journalBank j

/-- The sector a page lies in (R5). -/
def CellPage.target : CellPage → Target
  | .user p => .user (sectorOf p)
  | .journal j _ => .journal j

/-- The target of a cell operation (section 1.3). -/
def CellOp.target : CellOp → Target
  | .readPage cp => cp.target
  | .blankCheck t => t
  | .programPulse cp _ _ => cp.target
  | .erasePulse t _ => t

/-- The bank of a cell operation, derived from its target (section 1.3, R12). -/
def CellOp.bank (o : CellOp) : Bank := o.target.bank

end Sys2Proof.Machine
end

