-- ==== Sys2Proof/Machine/Cells.lean ====
section
/-! DEFINITION. The cell array: reading and writing a cell byte in the canonical form, reading a page, the blank check, and
what a pulse and an interrupted pulse leave (R4, R6 to R9, R15). -/

namespace Sys2Proof.Machine

/-- The canonical form: keys strictly rising, no byte equal to what an unlisted cell reads as. -/
abbrev Memory.wf (m : Memory) : Prop :=
  m.Pairwise (fun a b => a.1 < b.1) ∧ ∀ c ∈ m, c.2 ≠ Config.erasedByte

/-- The byte of cell `a`. -/
def Memory.read : Memory → Nat → Byte
  | [], _ => Config.erasedByte
  | (k, v) :: rest, a => if k = a then v else Memory.read rest a

/-- `m` with cell `a` holding `v`, in the canonical form. -/
def Memory.write : Memory → Nat → Byte → Memory
  | [], a, v => if v = Config.erasedByte then [] else [(a, v)]
  | (k, w) :: rest, a, v =>
    if a < k then (if v = Config.erasedByte then (k, w) :: rest else (a, v) :: (k, w) :: rest)
    else if a = k then (if v = Config.erasedByte then rest else (a, v) :: rest)
    else (k, w) :: Memory.write rest a v

/-- `m` with cell `lo + o` holding `f o b` for each offset `o` below the count, `b` being its byte in `m`. -/
def Memory.update (m : Memory) (lo : Nat) (f : Nat → Byte → Byte) : Nat → Memory
  | 0 => m
  | n + 1 => Memory.write (Memory.update m lo f n) (lo + n) (f n (Memory.read m (lo + n)))

/-- The 64 bytes of a page exactly as the cells hold them (R6). -/
def readCells (m : Memory) (cp : CellPage) : Page :=
  Vector.ofFn fun x => Memory.read m (cp.base + x.val)

/-- BLANK: every byte of the whole sector reads FFh (R7). -/
def isBlank (m : Memory) (t : Target) : Bool :=
  (List.range t.size).all fun o => Memory.read m (t.base + o) == 0xFF#8

/-- The mask a residue gives for an offset, if it lists one. -/
def residueAt : PulseResidue → Nat → Option Byte
  | [], _ => none
  | (k, v) :: rest, o => if k = o then some v else residueAt rest o

/-- A byte after a complete program pulse (R8). A 0 bit stays 0; a 1 bit may read 0 or 1, whatever its latch bit. An offset
the residue does not list took the whole pulse: its latch bits at 0 were cleared and no bit was disturbed. -/
def programmedByte (latch : Page) (left : PulseResidue) (o : Nat) (b : Byte) : Byte :=
  b &&& (residueAt left o).getD (latch[o]?.getD 0xFF#8)

/-- A byte after a complete erase pulse (R9). A 1 bit stays 1; a 0 bit may read 0 or 1. An offset the residue does not list
was erased. -/
def erasedByteAfter (left : PulseResidue) (o : Nat) (b : Byte) : Byte :=
  b ||| (residueAt left o).getD 0xFF#8

/-- A byte after a program pulse cut short in its pulse phase (R15). An offset not listed was not moved. -/
def programCutByte (left : PulseResidue) (o : Nat) (b : Byte) : Byte :=
  b &&& (residueAt left o).getD 0xFF#8

/-- A byte after an erase pulse cut short in its pulse phase (R15). An offset not listed was not moved. -/
def eraseCutByte (left : PulseResidue) (o : Nat) (b : Byte) : Byte :=
  b ||| (residueAt left o).getD 0x00#8

/-- The cells after a complete program pulse of one page: only that page changes (R8). -/
def programCells (m : Memory) (cp : CellPage) (latch : Page) (left : PulseResidue) : Memory :=
  Memory.update m cp.base (programmedByte latch left) 64

/-- The cells after a complete erase pulse of one sector: only that sector changes (R9). -/
def eraseCells (m : Memory) (t : Target) (left : PulseResidue) : Memory :=
  Memory.update m t.base (erasedByteAfter left) t.size

/-- The cells as a reset leaves them that finds operation `op` in flight (the table of R15). During SETUP the cells have not
been touched, and in HOLD they hold what the complete pulse left. -/
def cellsAfterReset (m : Memory) (op : Option CellOp) (left : PulseResidue) : Memory :=
  match op with
  | some (.programPulse cp _ (.pulse _)) => Memory.update m cp.base (programCutByte left) 64
  | some (.erasePulse t (.pulse _)) => Memory.update m t.base (eraseCutByte left) t.size
  | _ => m

end Sys2Proof.Machine
end

