-- ==== Sys2Proof/Machine/Operands.lean ====
section
/-! DEFINITION. Operand forms: page images, latches and journal headers (R49 to R52, R66, R141), the lanes and bytes of a port
transaction (R127, R129), request frames, and the byte layouts of section 11.6 (R171). -/

namespace Sys2Proof.Machine

/-! ## Page images -/

/-- A page that reads FFh throughout. -/
def erasedPage : Page := Vector.replicate 64 0xFF#8

/-- Every byte of the page is FFh (R73, R77). -/
def isErasedPage (p : Page) : Bool := decide (∀ x : Fin 64, p[x] = 0xFF#8)

/-- The latch that takes a page from its known contents to a target: bit 0 where the target bit is 0 and the known bit is 1,
every other bit 1 (R50; R52 with the verify as the known contents). -/
def latchFor (target known : Page) : Page := Vector.ofFn fun x => target[x] ||| ~~~known[x]

/-- Some bit of `target` is 1 where the same bit of `read` is 0: the needs-erase test (R49) and the test for a disturbed bit
(R51). -/
def lacksOneBit (target read : Page) : Bool := decide (∃ x : Fin 64, target[x] &&& ~~~read[x] ≠ 0#8)

/-- The sum of a page's bytes modulo 65536. -/
def pageSum (p : Page) : BitVec 16 := p.toList.foldl (fun acc b => acc + b.setWidth 16) 0#16

/-- The copy check: the sum of the 1,024 bytes of a sector image modulo 65536 (R66). -/
def imageSum (i : Image) : BitVec 16 := i.toList.foldl (fun acc p => acc + pageSum p) 0#16

/-- An image every byte of which is FFh; the bytes of an ASSEMBLING buffer that no read has filled stand so and are read by
nothing (R64, log 16). -/
def erasedImage : Image := Vector.replicate 16 erasedPage

/-- The first page at or after `k` that is not FFh throughout: the next page COPY or TARGET_PROGRAM programs (R73, R77). -/
def nextPageToProgram (i : Image) (k : Nat) : Option (Fin 16) :=
  (List.finRange 16).find? fun j => decide (k ≤ j.val) && !isErasedPage i[j]

/-- The low and the high byte of a 16-bit number (section 11.6: low byte first). -/
def lowByte (w : BitVec 16) : Byte := w.setWidth 8

/-- The high byte of a 16-bit number. -/
def highByte (w : BitVec 16) : Byte := (w >>> 8).setWidth 8

/-- The number two bytes hold, low byte first (section 11.6). -/
def wordOf (low high : Byte) : BitVec 16 := high ++ low

/-! ## The journal header (R66, R171) -/

/-- The header image: target sector and copy check, both marks FFh, every other byte FFh (R66). -/
def headerImageOf (s : SectorNo) (check : BitVec 16) : Page :=
  ((((erasedPage.set 0 (lowByte (BitVec.ofNat 16 s.val))).set 1 (highByte (BitVec.ofNat 16 s.val))).set 2
    (lowByte check)).set 3 (highByte check))

/-- The image with the COPY_DONE mark at 00h (R66). -/
def withCopyDone (p : Page) : Page := p.set 4 0x00#8

/-- The image with the RESTORE_DONE mark at 00h (R66, R110). -/
def withRestoreDone (p : Page) : Page := p.set 5 0x00#8

/-- The target sector field of a header as read, 0 to 65535 (R141). -/
def headerTarget (p : Page) : BitVec 16 := wordOf p[0] p[1]

/-- The copy check field of a header as read (R141). -/
def headerCheck (p : Page) : BitVec 16 := wordOf p[2] p[3]

/-- A mark counts as set when its byte reads other than FFh (R141). -/
def copyDoneSet (p : Page) : Bool := p[4] != 0xFF#8

/-- The RESTORE_DONE mark counts as set (R141). -/
def restoreDoneSet (p : Page) : Bool := p[5] != 0xFF#8

/-- The sector a header names, when the target field is a sector of the bank the journal does not lie in (R141). -/
def headerSector (j : Journal) (p : Page) : Option SectorNo :=
  if h : (headerTarget p).toNat < 256 then
    let s : SectorNo := ⟨(headerTarget p).toNat, h⟩
    if journalFor s = j then some s else none
  else none

/-! ## Port transactions (R127, R129) -/

/-- The lanes a transaction uses: address remainder 4, and as many as its size (R127). -/
def lanesUsed (t : Transaction) : List Nat := (List.range t.size).map fun i => t.address.toNat % 4 + i

/-- The size is 1, 2 or 4 and the address is a multiple of it (R129). -/
def isAligned (t : Transaction) : Bool :=
  (t.size == 1 || t.size == 2 || t.size == 4) && t.address.toNat % t.size == 0

/-- The lane strobes name exactly the lanes used (R129). -/
def strobesMatch (t : Transaction) : Bool :=
  (List.range 4).all fun lane => t.strobes.getLsbD lane == (lanesUsed t).contains lane

/-- The alignment check: alignment, and for a write the strobes too (R129). The strobes of a read are not looked at. -/
def passesAlignment (t : Transaction) : Bool :=
  isAligned t && match t.direction with
    | .read => true
    | .write => strobesMatch t

/-- The page of a transaction (R127). -/
def transactionPage (t : Transaction) : PageNo := pageOf t.address

/-- The byte positions a transaction covers (R127). -/
def positionsOf (t : Transaction) : List (Fin 64) :=
  (List.finRange 64).filter fun x =>
    decide (positionOf t.address ≤ x.val) && decide (x.val < positionOf t.address + t.size)

/-- The byte on a data lane. -/
def laneByte (t : Transaction) (lane : Nat) : Byte := (t.data >>> (8 * lane)).setWidth 8

/-- The bytes a write writes: each position with the byte of its lane. The byte at address a travels on lane a remainder
4, and so does its position, 64 being a multiple of 4 (R127). -/
def writesOf (t : Transaction) : List (Fin 64 × Byte) := (positionsOf t).map fun x => (x, laneByte t (x.val % 4))

/-! ## Request frames (R163, R167) -/

/-- The CHECK byte that makes the sum of all bytes 0 modulo 256 (R167). -/
def checkByteFor (bytes : List Byte) : Byte := 0#8 - bytes.foldl (· + ·) 0#8

/-- The bytes of a request frame with its right CHECK: CMD, TAG, LEN, arguments, CHECK (section 11.6). -/
def requestBytes (cmd tag : Byte) (args : List Byte) : List Byte :=
  let body := [cmd, tag, BitVec.ofNat 8 args.length] ++ args
  body ++ [checkByteFor body]

/-- The fixed request length of each command, none for a code the table does not list (section 11.6). -/
def requestLength (cmd : Byte) : Option Nat :=
  if cmd = 0x01#8 then some 0
  else if cmd = 0x02#8 then some 0
  else if cmd = 0x10#8 then some 1
  else if cmd = 0x11#8 then some 8
  else if cmd = 0x12#8 then some 0
  else if cmd = 0x13#8 then some 2
  else if cmd = 0x20#8 then some 1
  else if cmd = 0x30#8 then some 0
  else if cmd = 0x31#8 then some 3
  else if cmd = 0x40#8 then some 2
  else if cmd = 0x41#8 then some 2
  else if cmd = 0x50#8 then some 1
  else if cmd = 0x51#8 then some 1
  else if cmd = 0x7F#8 then some 0
  else none

/-- A region kind's code (section 11.6). -/
def kindCode : AccessKind → Byte
  | .buffered => 0#8
  | .through => 1#8
  | .readOnly => 2#8
  | .noAccess => 3#8

/-- The kind a code names (section 11.6). -/
def kindOfCode (c : Byte) : Option AccessKind :=
  if c = 0#8 then some .buffered
  else if c = 1#8 then some .through
  else if c = 2#8 then some .readOnly
  else if c = 3#8 then some .noAccess
  else none

/-- The page a two-byte argument names, none above 4095 (R117, R180). -/
def pageOfWord (w : BitVec 16) : Option PageNo :=
  if h : w.toNat < 4096 then some ⟨w.toNat, h⟩ else none

/-- The bank an argument names (R182). -/
def bankOfCode (c : Byte) : Option Bank :=
  if c = 0#8 then some .bank0 else if c = 1#8 then some .bank1 else none

/-- The five fields of a region entry from a region record, none where a check of R117 fails (R175). -/
def regionOfRecord (valid : Byte) (base limit : BitVec 16) (kind delay : Byte) : Option Region :=
  match pageOfWord base, pageOfWord limit, kindOfCode kind with
  | some b, some l, some k =>
    if (valid = 0#8 ∨ valid = 1#8) ∧ b ≤ l ∧ delay.toNat ≤ 15 then
      some { valid := valid == 1#8, base := b, limit := l, kind := k,
             delay := if delay = 0#8 then none else some delay.toNat }
    else none
  | _, _, _ => none

/-- A region entry as a region record (section 11.6). -/
def regionRecord (r : Region) : List Byte :=
  [if r.valid then 1#8 else 0#8,
   lowByte (BitVec.ofNat 16 r.base.val), highByte (BitVec.ofNat 16 r.base.val),
   lowByte (BitVec.ofNat 16 r.limit.val), highByte (BitVec.ofNat 16 r.limit.val),
   kindCode r.kind, BitVec.ofNat 8 (r.delay.getD 0)]

/-- The settings block (section 11.6). -/
def settingsBlock (c : Settings) : List Byte :=
  [BitVec.ofNat 8 c.tick, BitVec.ofNat 8 c.delay, BitVec.ofNat 8 c.pgmPulse, BitVec.ofNat 8 c.pgmMax,
   BitVec.ofNat 8 c.ersPulse, BitVec.ofNat 8 c.ersMax, BitVec.ofNat 8 c.holdLimit, kindCode c.defaultKind]

/-- The settings with one field replaced, none where the field code or the value is out of range (R176). -/
def withSetting (c : Settings) (field value : Byte) : Option Settings :=
  let v := value.toNat
  if field = 0#8 then (if 1 ≤ v then some { c with tick := v } else none)
  else if field = 1#8 then (if 1 ≤ v ∧ v ≤ 15 then some { c with delay := v } else none)
  else if field = 2#8 then (if 5 ≤ v ∧ v ≤ 80 then some { c with pgmPulse := v } else none)
  else if field = 3#8 then (if 1 ≤ v ∧ v ≤ 8 then some { c with pgmMax := v } else none)
  else if field = 4#8 then (if 1 ≤ v ∧ v ≤ 16 then some { c with ersPulse := v } else none)
  else if field = 5#8 then (if 1 ≤ v ∧ v ≤ 15 then some { c with ersMax := v } else none)
  else if field = 6#8 then (if 1 ≤ v then some { c with holdLimit := v } else none)
  else if field = 7#8 then (kindOfCode value).map fun k => { c with defaultKind := k }
  else none

/-- The identity block (R173): family A1h, part 25h, revision 01h, 4096 pages, 16 pages a sector, 8 lines, log depth 16. -/
def identityBlock : List Byte := [0xA1#8, 0x25#8, 0x01#8, 0x00#8, 0x10#8, 16#8, 8#8, 16#8]

/-! ## The fault record (section 11.6) -/

/-- The code of a journal. -/
def journalCode : Journal → Byte
  | .j0 => 0#8
  | .j1 => 1#8

/-- The reason codes. -/
def reasonCode : RefusedReason → Byte
  | .align => 0#8
  | .noAccess => 1#8
  | .readOnly => 2#8
  | .failedPage => 3#8
  | .quarantine => 4#8
  | .stageFull => 5#8
  | .holdLimit => 6#8
  | .starting => 7#8

/-- The step codes. -/
def stepCode : FaultStep → Byte
  | .erase => 0#8
  | .copy => 1#8
  | .header => 2#8
  | .copyDone => 3#8
  | .close => 4#8
  | .program => 5#8

/-- The code of a program loop's failure. -/
def failureCode : LoopFailure → Byte
  | .exhausted => 0#8
  | .disturbed => 1#8

/-- The code of a direction. -/
def directionCode : Direction → Byte
  | .read => 0#8
  | .write => 1#8

/-- The kind code of an entry and its bytes 3 to 7; bytes beyond the kind's fields are 00h (R171). -/
def faultFields : FaultKind → List Byte
  | .refused a d r =>
    [1#8, a.setWidth 8, (a >>> 8).setWidth 8, (a >>> 16).setWidth 8, directionCode d, reasonCode r]
  | .programFail p c n k =>
    [2#8, lowByte (BitVec.ofNat 16 p.val), highByte (BitVec.ofNat 16 p.val), failureCode c, BitVec.ofNat 8 n,
     BitVec.ofNat 8 k]
  | .journalFail j st s k => [3#8, journalCode j, stepCode st, BitVec.ofNat 8 s.val, BitVec.ofNat 8 k, 0#8]
  | .journalHeld p j k =>
    [4#8, lowByte (BitVec.ofNat 16 p.val), highByte (BitVec.ofNat 16 p.val), journalCode j, BitVec.ofNat 8 k, 0#8]
  | .quarantined s st n => [5#8, BitVec.ofNat 8 s.val, stepCode st, BitVec.ofNat 8 n, 0#8, 0#8]
  | .replayed s => [6#8, BitVec.ofNat 8 s.val, 0#8, 0#8, 0#8, 0#8]
  | .restored s => [7#8, BitVec.ofNat 8 s.val, 0#8, 0#8, 0#8, 0#8]
  | .restoreFail s => [8#8, BitVec.ofNat 8 s.val, 0#8, 0#8, 0#8, 0#8]
  | .journalCorrupt j w => [9#8, journalCode j, lowByte w, highByte w, 0#8, 0#8]

/-- The eight bytes of a fault record (section 11.6). -/
def faultRecord (e : FaultEntry) : List Byte := [lowByte e.seq, highByte e.seq] ++ faultFields e.kind

end Sys2Proof.Machine
end

