-- ==== Sys2Proof/Machine/Flags.lean ====
section
/-! DEFINITION. The flags and outputs of the block, each computed from the one field that holds it: bank busy, the phase timer,
ALERT, DRAINED, blocked pages, the FLAGS byte, the status codes and the status block (R10, R12, R98, R138, R157, R168,
R174). -/

namespace Sys2Proof.Machine

/-- A bank is busy from the start of a cell operation whose target lies in it until that operation completes (R12). -/
def bankBusy (s : State) (b : Bank) : Bool :=
  match s.op with
  | some o => o.bank == b
  | none => false

/-- The states of the phase timer (R10). -/
inductive PhaseTimerState where
  | idle
  | setup
  | pulse
  | hold
deriving DecidableEq, Repr

/-- The setup of a program pulse and of an erase pulse: 10 µs (R8, R9). -/
def setupTime : Nat := 10

/-- The hold of a program pulse: 5 µs (R8). -/
def programHoldTime : Nat := 5

/-- The hold of an erase pulse: 100 µs (R9). -/
def eraseHoldTime : Nat := 100

/-- The state of the phase timer: the phase of the pulse in flight, IDLE when none is (section 1.4). -/
def phaseTimerState (s : State) : PhaseTimerState :=
  match s.op with
  | some (.programPulse _ _ .setup) | some (.erasePulse _ .setup) => .setup
  | some (.programPulse _ _ (.pulse _)) | some (.erasePulse _ (.pulse _)) => .pulse
  | some (.programPulse _ _ (.hold _)) | some (.erasePulse _ (.hold _)) => .hold
  | _ => .idle

/-- What the phase timer was last loaded with, in µs; none while IDLE (R10). -/
def phaseTimerLoad (s : State) : Option Nat :=
  match s.op with
  | some (.programPulse _ _ .setup) | some (.erasePulse _ .setup) => some setupTime
  | some (.programPulse _ _ (.pulse w)) | some (.erasePulse _ (.pulse w)) => some w
  | some (.programPulse _ _ (.hold _)) => some programHoldTime
  | some (.erasePulse _ (.hold _)) => some eraseHoldTime
  | _ => none

/-- ALERT is asserted exactly when the fault log holds at least one entry (R157). -/
def alertOutput (s : State) : Bool := !s.log.entries.isEmpty

/-- The DRAINED output is asserted while the front-end state is DRAINED (R138). -/
def drainedOutput (s : State) : Bool := s.frontEnd == .drained

/-- A page is blocked while it has at least one FAILED line (R98). -/
def isBlocked (s : State) (p : PageNo) : Bool :=
  (List.finRange 8).any fun i => s.lines[i].state == .failed && s.lines[i].page == some p

/-- The lines in a state (R174). -/
def linesIn (s : State) (st : LineState) : Nat :=
  ((List.finRange 8).filter fun i => s.lines[i].state == st).length

/-- The quarantine record of sector `sec`'s bank names `sec` (R104). -/
def isNamed (s : State) (sec : SectorNo) : Bool := (s.quarantine.get (bankOf sec)).sector == some sec

/-- The FLAGS byte: OVERRUN, FRAMING, ALERT and PWARN in bits 0 to 3 (R168, section 11.6). -/
def flagsByte (s : State) : Byte :=
  (if s.link.overrunFlag then 1#8 else 0#8) ||| (if s.link.framingFlag then 2#8 else 0#8) |||
  (if alertOutput s then 4#8 else 0#8) ||| (if s.pwarn then 8#8 else 0#8)

/-- The status codes (section 11.6). -/
def statusCode : Status → Byte
  | .ok => 0#8
  | .badCheck => 1#8
  | .badCommand => 2#8
  | .badLength => 3#8
  | .range => 4#8
  | .state => 5#8
  | .stale => 6#8
  | .busy => 7#8
  | .empty => 8#8

/-- The code of a front-end state. No command executes in reset, where the part has none of the four (R138, R170). -/
def frontEndCode : FrontEnd → Byte
  | .inReset => 0#8
  | .starting => 0#8
  | .ready => 1#8
  | .draining => 2#8
  | .drained => 3#8

/-- The code of the running job, 0 NONE when no job runs. -/
def jobCode : Option Job → Byte
  | none => 0#8
  | some j =>
    match j.kind with
    | .commit => 1#8
    | .rewrite => 2#8
    | .restore => 3#8
    | .close => 4#8
    | .replay => 5#8

/-- The code of a pending recovery job. -/
def pendingCode : PendingJob → Byte
  | .none => 0#8
  | .restore => 1#8
  | .close => 2#8

/-- The code of a reset cause. -/
def resetCauseCode : ResetCause → Byte
  | .powerOn => 0#8
  | .resetPin => 1#8
  | .linkCommand => 2#8

/-- The two bytes of a bank record: the sector, 00h for none, and bit 7 for a sector named with the pending job in bits 0 to
1 (section 11.6). -/
def recordBytes (r : QuarantineRecord) : List Byte :=
  match r.sector with
  | some sec => [BitVec.ofNat 8 sec.val, 0x80#8 ||| pendingCode r.pending]
  | none => [0#8, pendingCode r.pending]

/-- The status block (R174, section 11.6). -/
def statusBlock (s : State) : List Byte :=
  [frontEndCode s.frontEnd, jobCode s.job,
   BitVec.ofNat 8 (linesIn s .free), BitVec.ofNat 8 (linesIn s .open), BitVec.ofNat 8 (linesIn s .sealed),
   BitVec.ofNat 8 (linesIn s .committing), BitVec.ofNat 8 (linesIn s .failed),
   BitVec.ofNat 8 s.commitQueue.length] ++
  recordBytes s.quarantine.zero ++ recordBytes s.quarantine.one ++
  [BitVec.ofNat 8 s.log.entries.length, BitVec.ofNat 8 s.log.dropped, resetCauseCode s.resetCause,
   if s.pwarn then 1#8 else 0#8]

end Sys2Proof.Machine
end

