-- ==== Sys2Proof/Machine/Ops.lean ====
section
/-! DEFINITION. The named operations of the block over lines, fault log, region table and port, and taking a reset, which every
cause of reset shares. -/

namespace Sys2Proof.Machine

/-! ## Lines, age list and commit queue (R19, R20, R24, R31, R37, R38) -/

/-- `s` with line `i` changed by `f`. -/
def updateLine (s : State) (i : LineNo) (f : Line → Line) : State :=
  { s with lines := s.lines.set i (f s.lines[i]) }

/-- The FREE line with the lowest index (R24). -/
def freeLineNo (s : State) : Option LineNo := (List.finRange 8).find? fun i => s.lines[i].state == .free

/-- The OPEN line of page `p` (R22: there is at most one). -/
def openLineOf (s : State) (p : PageNo) : Option LineNo :=
  (List.finRange 8).find? fun i => s.lines[i].state == .open && s.lines[i].page == some p

/-- The lines of the age list in a state, oldest opened first. -/
def linesByAge (s : State) (st : LineState) : List LineNo := s.ageList.filter fun i => s.lines[i].state == st

/-- The bytes `w` laid over the staged bytes: each position joins the valid set with its byte (R23, R24). -/
def putBytes (st : Staged) (w : List (Fin 64 × Byte)) : Staged := w.foldl (fun acc c => acc.set c.1 (some c.2)) st

/-- The valid set holds 64 positions (R25). -/
def isFull (st : Staged) : Bool := decide (∀ x : Fin 64, st[x].isSome = true)

/-- The staged bytes with a known page under them: the target image of R47, and a line's bytes over its buffer page (R71). -/
def overlay (st : Staged) (under : Page) : Page := Vector.ofFn fun x => st[x].getD under[x]

/-- The staged bytes of a line that holds the whole page (R47). -/
def filledWith (p : Page) : Staged := Vector.ofFn fun x => some p[x]

/-- Seal line `i`: an OPEN line becomes SEALED and joins the end of the commit queue; a request to seal another line has no
effect (R31). -/
def sealLine (s : State) (i : LineNo) : State :=
  if s.lines[i].state = .open then
    { updateLine s i (fun l => { l with state := .sealed }) with commitQueue := s.commitQueue ++ [i] }
  else s

/-- Seal several lines, in the order given. -/
def sealLines (s : State) (is : List LineNo) : State := is.foldl sealLine s

/-- Seal every OPEN line in age-list order (R34, R35). -/
def sealAll (s : State) : State := sealLines s (linesByAge s .open)

/-- Open line `i` for page `p` with the bytes written: age 0, through false, at the end of the age list (R24). -/
def openLine (s : State) (i : LineNo) (p : PageNo) (w : List (Fin 64 × Byte)) : State :=
  { updateLine s i (fun _ =>
      { state := .open, page := some p, staged := putBytes (Vector.replicate 64 none) w, age := 0, through := false }) with
    ageList := s.ageList ++ [i] }

/-- Line `i` becomes FREE: its fields are cleared and it leaves the age list (R37). The commit queue holds SEALED lines alone
(R20), so the line is in it no more. -/
def freeLine (s : State) (i : LineNo) : State :=
  { updateLine s i (fun _ => Line.cleared) with
    ageList := s.ageList.erase i, commitQueue := s.commitQueue.erase i }

/-- Line `i` becomes FAILED: it leaves the commit queue if it stood there, keeps page, bytes, age and its place in the age
list, and its through field becomes false (R38). -/
def failLine (s : State) (i : LineNo) : State :=
  { updateLine s i (fun l => { l with state := .failed, through := false }) with
    commitQueue := s.commitQueue.erase i }

/-- FAILED line `i` returns to SEALED at the end of the commit queue (R101). -/
def retryLine (s : State) (i : LineNo) : State :=
  { updateLine s i (fun l => { l with state := .sealed }) with commitQueue := s.commitQueue ++ [i] }

/-- SEALED line `i` leaves the commit queue and becomes COMMITTING, taken by a job (R21) or absorbed (R71). -/
def takeLine (s : State) (i : LineNo) : State :=
  { updateLine s i (fun l => { l with state := .committing }) with commitQueue := s.commitQueue.erase i }

/-! ## The fault log (R154) -/

/-- Append an entry: kept with the next sequence number while fewer than 16 stand in the list, otherwise dropped and counted
up to 255 (R154). -/
def FaultLog.append (l : FaultLog) (k : FaultKind) : FaultLog :=
  if l.entries.length < 16 then
    { l with entries := l.entries ++ [{ seq := l.nextSeq, kind := k }], nextSeq := l.nextSeq + 1 }
  else { l with dropped := min 255 (l.dropped + 1) }

/-- `s` with an entry appended to its fault log. -/
def appendFault (s : State) (k : FaultKind) : State := { s with log := s.log.append k }

/-! ## Regions (R116, R118) -/

/-- An entry covers page `p` when it is valid and base page ≤ p ≤ limit page (R116). -/
def Region.covers (r : Region) (p : PageNo) : Bool := r.valid && decide (r.base ≤ p) && decide (p ≤ r.limit)

/-- The lowest-numbered entry that covers page `p` (R118). -/
def regionOf (s : State) (p : PageNo) : Option Region :=
  ((List.finRange 8).find? fun n => s.regions[n].covers p).map fun n => s.regions[n]

/-- The access kind of page `p` (R118). -/
def kindOf (s : State) (p : PageNo) : AccessKind :=
  match regionOf s p with
  | some r => r.kind
  | none => s.settings.defaultKind

/-- The commit delay of page `p`: the override of the entry that gives its kind, otherwise DELAY (R33, R118). -/
def delayOf (s : State) (p : PageNo) : Nat :=
  match regionOf s p with
  | some r => r.delay.getD s.settings.delay
  | none => s.settings.delay

/-! ## Answers of the port (R128, R131, R135) -/

/-- The port answers the transaction and returns to IDLE (R128). -/
def answer (s : State) (a : PortAnswer) : State := { s with port := .idle, portAnswer := some a }

/-- A refusal: ERROR, and a REFUSED entry when the front-end state is READY or STARTING (R135). -/
def refuse (s : State) (t : Transaction) (r : RefusedReason) : State :=
  answer
    (if s.frontEnd = .ready ∨ s.frontEnd = .starting then appendFault s (.refused t.address t.direction r) else s)
    (.error (.refused r))

/-- A hold begins: HOLD_LIMIT is sampled and the hold timer is loaded with HOLD_LIMIT × 32 µs (R131). -/
def beginHold (s : State) (t : Transaction) (k : AccessKind) (c : HoldCause) : State :=
  { s with port := .held t k c (s.settings.holdLimit * 32) }

/-! ## Taking a reset -/

/-- A reset of any cause: every block returns to its reset state, the cell operation in flight leaves its target as R15 gives,
and the cause is recorded (R15, R16, R40, R61, R62, R115, R137, R139, R146, R151, R159, R170). The cells, the levels of the
input pins and the transactions that wait at the bus are not the part's to clear. -/
def partReset (s : State) (cause : ResetCause) (left : PulseResidue) : State :=
  { State.reset with
    pending := s.pending, cells := cellsAfterReset s.cells s.op left, bus := s.bus, resetCause := cause,
    pwarn := s.pwarn, resetnLow := s.resetnLow, freeIndex := s.freeIndex }

end Sys2Proof.Machine
end

