-- ==== Sys2Proof/Machine/Staging.lean ====
section
/-! DEFINITION. The staging buffer: taking a write, the hold for a line and the retake, sealing by age and at drain entry,
handing back from a job, the cascades, retry and discard (chapter 2; R97, R101, R102, R105). -/

namespace Sys2Proof.Machine

/-! ## Taking a write -/

/-- What follows a merge or an opening: a THROUGH write sets the through field, seals the line and waits on it (R26, R134); a
BUFFERED write is answered OKAY (R27). -/
def acceptIntoLine (s : State) (i : LineNo) (t : Transaction) (k : AccessKind) : State :=
  if k = .through then
    { sealLine (updateLine s i (fun l => { l with through := true })) i with port := .commitWait t k i }
  else answer s (.okay [])

/-- Line `i` is sealed with cause full when its valid set holds 64 positions (R25). -/
def sealIfFull (s : State) (i : LineNo) : State := if isFull s.lines[i].staged then sealLine s i else s

/-- Merge a write into the OPEN line `i` of its page: age and place in the age list stay (R23). -/
def mergeWrite (s : State) (i : LineNo) (t : Transaction) (k : AccessKind) : State :=
  acceptIntoLine
    (sealIfFull (updateLine s i (fun l => { l with staged := putBytes l.staged (writesOf t) })) i) i t k

/-- Open FREE line `i` for a write (R24). -/
def openForWrite (s : State) (i : LineNo) (t : Transaction) (k : AccessKind) : State :=
  acceptIntoLine (openLine s i (transactionPage t) (writesOf t)) i t k

/-- The pressure seal: the oldest OPEN line, if any (R28). -/
def pressureSeal (s : State) : State :=
  match linesByAge s .open with
  | i :: _ => sealLine s i
  | [] => s

/-- The staging buffer takes a write: refuse, merge, open, or seal under pressure and hold, in that order (R22, R28). -/
def takeWrite (s : State) (t : Transaction) (k : AccessKind) : State :=
  if isBlocked s (transactionPage t) then refuse s t .failedPage
  else
    match openLineOf s (transactionPage t) with
    | some i => mergeWrite s i t k
    | none =>
      match freeLineNo s with
      | some i => openForWrite s i t k
      | none => beginHold (pressureSeal s) t k .line

/-- A write held for a line is taken again when a line is FREE: refused FAILED_PAGE, refused QUARANTINE, or opened (R29). DESIGN CHOICE
(log 27): where its page is blocked and its sector is named too, R29's list and R136 give FAILED_PAGE and R78 gives QUARANTINE, and
the block is tested first. -/
def retakeHeldWrite (s : State) : State :=
  match s.port with
  | .held t k .line _ =>
    match freeLineNo s with
    | none => s
    | some i =>
      if isBlocked s (transactionPage t) then refuse s t .failedPage
      else if isNamed s (sectorOf (transactionPage t)) then refuse s t .quarantine
      else openForWrite s i t k
  | _ => s

/-! ## Sealing -/

/-- The commit delay of a line: that of its page (R33). A line always has a page while it is OPEN (R18). -/
def lineDelay (s : State) (i : LineNo) : Nat :=
  match s.lines[i].page with
  | some p => delayOf s p
  | none => s.settings.delay

/-- An age-timer expiry at one OPEN line: its age rises by one, and it is sealed when the age has reached its commit delay
(R33). -/
def ageLine (s : State) (i : LineNo) : State :=
  let aged := updateLine s i (fun l => { l with age := l.age + 1 })
  if lineDelay s i ≤ s.lines[i].age + 1 then sealLine aged i else aged

/-- An age-timer expiry takes every OPEN line in age-list order (R33). -/
def ageLines (s : State) : State := (linesByAge s .open).foldl ageLine s

/-- A write held for a line is refused DRAIN, with no entry (R30, R35). -/
def refuseHeldForLine (s : State) : State :=
  match s.port with
  | .held _ _ .line _ => answer s (.error .drain)
  | _ => s

/-- The drain entry: every OPEN line is sealed in age-list order and a write held for a line is refused DRAIN (R35). -/
def drainEntry (s : State) : State := refuseHeldForLine (sealAll s)

/-! ## Handing back from a job -/

/-- The port answers a THROUGH write whose line has left COMMITTING: OKAY when it retired, ERROR with COMMIT_FAIL when it
failed (R26, R134). -/
def answerThrough (s : State) : State :=
  match s.port with
  | .commitWait _ _ i =>
    if s.lines[i].state = .free then answer s (.okay [])
    else if s.lines[i].state = .failed then
      answer (updateLine s i (fun l => { l with through := false })) (.error .commitFail)
    else s
  | _ => s

/-- The lines of a list that are COMMITTING: those a job hands back. -/
def committingIn (s : State) (is : List LineNo) : List LineNo := is.filter fun i => s.lines[i].state == .committing

/-- A job hands its COMMITTING lines back as retired; a THROUGH write that waits on one is answered and a write held for a line
is taken again (R37, R54, R78, R79). -/
def handBackRetired (s : State) (is : List LineNo) : State :=
  retakeHeldWrite (answerThrough ((committingIn s is).foldl freeLine s))

/-- The OPEN and SEALED lines whose page a test picks out. -/
def waitingLines (s : State) (hit : PageNo → Bool) : List LineNo :=
  (List.finRange 8).filter fun i =>
    (s.lines[i].state == .open || s.lines[i].state == .sealed) && s.lines[i].page.any hit

/-- The pages of some lines. -/
def pagesOf (s : State) (is : List LineNo) : List PageNo := is.filterMap fun i => s.lines[i].page

/-- The lines a failure cascade reaches when a job hands back `is` as FAILED: the OPEN and SEALED lines of their pages (R97). -/
def cascadeOf (s : State) (is : List LineNo) : List LineNo :=
  waitingLines s fun p => (pagesOf s (committingIn s is)).contains p

/-- A job hands its COMMITTING lines back as FAILED, and the failure cascade of their pages follows; a THROUGH write that waits
on any of them is answered (R38, R97). -/
def handBackFailed (s : State) (is : List LineNo) : State :=
  answerThrough ((cascadeOf s is).foldl failLine ((committingIn s is).foldl failLine s))

/-- The entry cascade of a quarantine: every OPEN or SEALED line of the sector becomes FAILED (R105). -/
def entryCascade (s : State) (sec : SectorNo) : State :=
  answerThrough ((waitingLines s fun p => sectorOf p == sec).foldl failLine s)

/-! ## Retry and discard -/

/-- The FAILED lines of a page in age-list order. -/
def failedLinesOf (s : State) (p : PageNo) : List LineNo :=
  (linesByAge s .failed).filter fun i => s.lines[i].page == some p

/-- RETRY_PAGE's effect on the lines: every FAILED line of the page becomes SEALED and joins the commit queue in age-list order
(R101). -/
def retryLines (s : State) (p : PageNo) : State := (failedLinesOf s p).foldl retryLine s

/-- DISCARD_PAGE's effect on the lines: every FAILED line of the page becomes FREE, and a write held for a line is taken again
(R102). -/
def discardLines (s : State) (p : PageNo) : State := retakeHeldWrite ((failedLinesOf s p).foldl freeLine s)

end Sys2Proof.Machine
end

