-- ==== Sys2Proof/Machine/ReadPath.lean ====
section
/-! DEFINITION. The read path: the overlay order, the ground, the bank a read needs, serving a read and evaluating a held one
(chapter 5). -/

namespace Sys2Proof.Machine

/-- Layer 1: the byte at position `x` of the newest non-FREE line of page `p` that holds `x` (R85, R88). -/
def lineByte (s : State) (p : PageNo) (x : Fin 64) : Option Byte :=
  s.ageList.reverse.findSome? fun i =>
    if s.lines[i].state ≠ .free ∧ s.lines[i].page = some p then s.lines[i].staged[x] else none

/-- Layer 2: the byte of a rebuild buffer LOADED with the page's sector (R87). -/
def bufferByte (s : State) (p : PageNo) (x : Fin 64) : Option Byte :=
  match s.buffer with
  | .loaded sec img => if sec = sectorOf p then some img[pageInSector p][x] else none
  | _ => none

/-- The journal sector whose copy is the ground of `sec`: one whose run-time state is OPEN naming `sec`, unless the quarantine
record names `sec` with ground CELLS (R86). -/
def copyOf (s : State) (sec : SectorNo) : Option Journal :=
  if isNamed s sec && (s.quarantine.get (bankOf sec)).ground == .cells then none
  else if s.journals.zero = .openFor sec then some .j0
  else if s.journals.one = .openFor sec then some .j1
  else none

/-- The page that holds the ground of page `p`: its journal copy or its cells (R86). -/
def groundPage (s : State) (p : PageNo) : CellPage :=
  match copyOf s (sectorOf p) with
  | some j => copyPage j (pageInSector p)
  | none => .user p

/-- Layers 3 and 4: the ground byte (R85, R86). -/
def groundByte (s : State) (p : PageNo) (x : Fin 64) : Byte := Memory.read s.cells ((groundPage s p).base + x.val)

/-- The byte at position `x` of page `p`, by the overlay order (R85). -/
def readByte (s : State) (p : PageNo) (x : Fin 64) : Byte :=
  match lineByte s p x with
  | some b => b
  | none =>
    match bufferByte s p x with
    | some b => b
    | none => groundByte s p x

/-- A byte falls through to the ground: no line and no buffer gives it (R90). -/
def reachesGround (s : State) (p : PageNo) (x : Fin 64) : Bool :=
  (lineByte s p x).isNone && (bufferByte s p x).isNone

/-- The bank a read needs, none when no byte falls through to the ground (R90). -/
def neededBank (s : State) (t : Transaction) : Option Bank :=
  if (positionsOf t).any (reachesGround s (transactionPage t)) then some (groundPage s (transactionPage t)).target.bank else none

/-- The read path serves a read: OKAY with the bytes on the lanes used, in address order (R84, R128). -/
def serveRead (s : State) (t : Transaction) : State :=
  answer s (.okay ((positionsOf t).map fun x => (x.val % 4, readByte s (transactionPage t) x)))

/-- A read needs no bank, or the bank it needs is not busy (R84, R90). -/
def canServe (s : State) (t : Transaction) : Bool :=
  match neededBank s t with
  | none => true
  | some b => !bankBusy s b

/-- The read path takes a read: it is served at once, or held for a bank (R84, R90). -/
def takeRead (s : State) (t : Transaction) (k : AccessKind) : State :=
  if canServe s t then serveRead s t else beginHold s t k .bank

/-- A held read is evaluated at the completion of an operation on bank `done`, after the sequencer's step, whose next operation
is already in the operation record. A read that needs the completed bank is served before that operation starts (R13). A
read whose need has moved to the bank of that operation is served or stays held, as the free value says (R91, log 9). -/
def evaluateHeldRead (done : Bank) (s : State) : State :=
  match s.port with
  | .held t _ .bank _ =>
    if canServe s t || neededBank s t == some done then serveRead s t
    else
      let s' := { s with freeIndex := s.freeIndex + 1 }
      if Config.startTakenFirst s.freeIndex then s' else serveRead s' t
  | _ => s

/-- A held read is evaluated apart from a completion: it is served when its bank is not busy (R91). -/
def reevaluateHeldRead (s : State) : State :=
  match s.port with
  | .held t _ .bank _ => if canServe s t then serveRead s t else s
  | _ => s

end Sys2Proof.Machine
end

