-- ==== Sys2Proof/Machine/Transmit.lean ====
section
/-! DEFINITION. The transmitter: a response is built, its FLAGS byte when its first byte begins (R162, R167, R168). -/

namespace Sys2Proof.Machine

/-- A response with no data (R167: LEN is 0 for every status other than OK). -/
def plainResponse (st : Status) (tag : Byte) : Response := { status := st, tag := tag, data := [], resets := false }

/-- A response OK with data. -/
def dataResponse (tag : Byte) (data : List Byte) : Response := { status := .ok, tag := tag, data := data, resets := false }

/-- The bytes of a response frame: STATUS, TAG, FLAGS, LEN, data, CHECK (R167, section 11.6). -/
def responseBytes (r : Response) (flags : Byte) : List Byte :=
  let body := [statusCode r.status, r.tag, flags, BitVec.ofNat 8 r.data.length] ++ r.data
  body ++ [checkByteFor body]

/-- The first byte of a response begins: the FLAGS byte is built, and OVERRUN and FRAMING are cleared (R168). -/
def beginResponse (s : State) (r : Response) : State :=
  { s with link := { s.link with
      transmitter := .response (responseBytes r (flagsByte s)) r.resets, overrunFlag := false, framingFlag := false } }

/-- A response has been built: it begins at once, or follows the sync answer that is still being sent (R162, R167); in SYNC_WAIT,
where a break fell before the execution, it is not sent (R161, R165). -/
def respond (s : State) (r : Response) : State :=
  if s.link.state = .syncWait then s
  else match s.link.transmitter with
  | .syncAnswer _ => { s with link := { s.link with transmitter := .syncAnswer (some r) } }
  | _ => beginResponse s r

/-- The flush condition: the commit queue is empty and the sequencer runs no job (R177). -/
def flushCondition (s : State) : Bool := s.commitQueue.isEmpty && s.job.isNone

/-- The test for a deferred FLUSH: when the condition is met, the response OK is built with the number of FAILED lines (R169,
R177). -/
def flushTest (s : State) : State :=
  match s.unit.deferred with
  | some tag =>
    if flushCondition s then
      respond { s with unit := { s.unit with deferred := none } }
        (dataResponse tag [BitVec.ofNat 8 (linesIn s .failed)])
    else s
  | none => s

end Sys2Proof.Machine
end

