-- ==== Sys2Proof/Machine/Jobs.lean ====
section
/-! DEFINITION. Starting cell operations and loops, the job choice, the starts of jobs, the drain test and the end of a job
(R43, R46, R50, R56, R108, R112, R143, R148). -/

namespace Sys2Proof.Machine

/-! ## Cell operations and loops -/

/-- The sequencer starts a READ_PAGE (R6). -/
def startReadPage (s : State) (cp : CellPage) : State := { s with op := some (.readPage cp) }

/-- The sequencer starts a BLANK_CHECK (R7). -/
def startBlankCheck (s : State) (t : Target) : State := { s with op := some (.blankCheck t) }

/-- Job `j` starts a program loop on page `cp` with a target image and the page's known contents: the first latch, pulses
applied 1 and the first PROGRAM_PULSE in SETUP (R50). -/
def startProgram (s : State) (j : Job) (cp : CellPage) (image known : Page) : State :=
  { s with
    job := some { j with loop := some (.program cp image (latchFor image known) 1) }
    op := some (.programPulse cp (latchFor image known) .setup) }

/-- A further round of a program loop with the latch narrowed to the bits the verify found still to clear (R52). -/
def nextProgramPulse (s : State) (j : Job) (cp : CellPage) (image verify : Page) (pulses : Nat) : State :=
  { s with
    job := some { j with loop := some (.program cp image (latchFor image verify) (pulses + 1)) }
    op := some (.programPulse cp (latchFor image verify) .setup) }

/-- Job `j` applies erase pulse number `n` of its erase loop (R56). -/
def startErasePulse (s : State) (j : Job) (t : Target) (n : Nat) : State :=
  { s with job := some { j with loop := some (.erase t n) }, op := some (.erasePulse t .setup) }

/-- Job `j` starts an erase loop (R56). -/
def startErase (s : State) (j : Job) (t : Target) : State := startErasePulse s j t 1

/-! ## The job choice -/

/-- A job record without loop, lines or rewrite fields. -/
def freshJob (k : JobKind) (sec : SectorNo) (st : Stage) : Job :=
  { kind := k, head := none, members := [], page := none, sector := sec, stage := st, loop := none, copyCheck := none,
    headerImage := none, failedStep := none }

/-- What the job choice may take (R43). -/
inductive Choice where
  | restore (b : Bank) (sec : SectorNo)
  | close (b : Bank) (sec : SectorNo)
  | commit (i : LineNo) (p : PageNo)
deriving DecidableEq, Repr

/-- The pending recovery job of a bank's record, on the sector it names (R43, R104). -/
def pendingChoice (s : State) (b : Bank) : Option Choice :=
  match (s.quarantine.get b).sector, (s.quarantine.get b).pending with
  | some sec, .restore => some (.restore b sec)
  | some sec, .close => some (.close b sec)
  | _, _ => none

/-- The head of the commit queue with its page. -/
def headChoice (s : State) : Option Choice :=
  match s.commitQueue with
  | i :: _ => s.lines[i].page.map fun p => .commit i p
  | [] => none

/-- The next job: made when the sequencer is idle in READY, DRAINING or DRAINED; bank 0's pending recovery job, then bank 1's,
then the head of the commit queue (R43, R45). -/
def nextJob (s : State) : Option Choice :=
  if s.job.isNone && (s.frontEnd == .ready || s.frontEnd == .draining || s.frontEnd == .drained) then
    (pendingChoice s .bank0).orElse fun _ => (pendingChoice s .bank1).orElse fun _ => headChoice s
  else none

/-- A COMMIT starts on line `i`, the head of the queue: the line becomes COMMITTING and the pre-read starts (R21, R46). -/
def startCommit (s : State) (i : LineNo) (p : PageNo) : State :=
  startReadPage
    { takeLine s i with
      job := some { freshJob .commit (sectorOf p) .preRead with head := some i, page := some p } }
    (.user p)

/-- The first read of a journal copy: the rebuild buffer becomes ASSEMBLING for the job's sector (R64, R108). -/
def startLoadCopy (s : State) (j : Job) : State :=
  startReadPage
    { s with job := some { j with stage := .loadCopy 0, loop := none }, buffer := .assembling j.sector erasedImage }
    (copyPage (journalFor j.sector) 0)

/-- The close step of a recovery job begins with a READ_PAGE of the journal's header (R110). -/
def startCloseStep (s : State) (j : Job) : State :=
  startReadPage { s with job := some { j with stage := .close, loop := none } } (headerPage (journalFor j.sector))

/-- A RESTORE starts on the sector a record names: its copy is read, or, when the record's ground is CELLS, the close step alone
runs (R108). -/
def startRestore (s : State) (b : Bank) (sec : SectorNo) : State :=
  if (s.quarantine.get b).ground = .cells then startCloseStep s (freshJob .restore sec .close)
  else startLoadCopy s (freshJob .restore sec (.loadCopy 0))

/-- A CLOSE job starts with its close step (R112). -/
def startCloseJob (s : State) (sec : SectorNo) : State := startCloseStep s (freshJob .close sec .close)

/-- A REPLAY starts on the sector a journal classified OPEN names (R143). -/
def startReplay (s : State) (j : Journal) (sec : SectorNo) : State :=
  startLoadCopy { s with scan := .replay j } (freshJob .replay sec (.loadCopy 0))

/-- The job that the choice takes starts. -/
def startChoice (s : State) (c : Choice) : State :=
  match c with
  | .restore b sec => startRestore s b sec
  | .close _ sec => startCloseJob s sec
  | .commit i p => startCommit s i p

/-- The job choice: the next job starts, or the sequencer stays as it is (R43). -/
def chooseJob (s : State) : State :=
  match nextJob s with
  | some c => startChoice s c
  | none => s

/-! ## Ends -/

/-- The drain test: in DRAINING, with the commit queue empty, no job and no pending recovery job, the state becomes DRAINED
(R148). -/
def drainTest (s : State) : State :=
  if s.frontEnd = .draining ∧ s.commitQueue = [] ∧ s.job = none ∧ s.quarantine.zero.pending = .none ∧
      s.quarantine.one.pending = .none then
    { s with frontEnd := .drained }
  else s

/-- The last acts of a job's end step: buffer EMPTY, record removed, job choice, then the tests for DRAINED and for a deferred
FLUSH (R54, R55, R64, R148, R177). -/
def endJob (s : State) : State :=
  flushTest (drainTest (chooseJob { s with job := none, op := none, buffer := .empty }))

end Sys2Proof.Machine
end

