-- ==== Sys2Proof/Machine/Port.lean ====
section
/-! DEFINITION. The system port: the checks at acceptance, the resumption of a held transaction, the expiry of a hold and the
taking of the next transaction from the bus (chapter 8). -/

namespace Sys2Proof.Machine

/-- The checks from the front-end state onwards, out of STARTING: a write is refused DRAIN in DRAINING and DRAINED, then refused
QUARANTINE where the record names its sector, then handed to the staging buffer; a read is handed to the read path (R130,
steps 2 to 4). -/
def continueChecks (s : State) (t : Transaction) (k : AccessKind) : State :=
  match t.direction with
  | .read => takeRead s t k
  | .write =>
    if s.frontEnd = .draining ∨ s.frontEnd = .drained then answer s (.error .drain)
    else if isNamed s (sectorOf (transactionPage t)) then refuse s t .quarantine
    else takeWrite s t k

/-- The port takes a transaction: alignment, kind, front-end state, and the further checks (R129, R130). -/
def takeTransaction (s : State) (t : Transaction) : State :=
  if !passesAlignment t then refuse s t .align
  else if kindOf s (transactionPage t) = .noAccess then refuse s t .noAccess
  else if kindOf s (transactionPage t) = .readOnly ∧ t.direction = .write then refuse s t .readOnly
  else if s.frontEnd = .starting then beginHold s t (kindOf s (transactionPage t)) .start
  else continueChecks s t (kindOf s (transactionPage t))

/-- An IDLE port, out of reset, takes the transaction that has waited longest at the bus (R127, R137); a line it seals may be
taken by the job choice in the same step (R43). -/
def takeNextTransaction (s : State) : State :=
  match s.port, s.bus with
  | .idle, t :: rest =>
    if s.frontEnd = .inReset then s
    else chooseJob (takeTransaction { s with bus := rest, portAnswer := none } t)
  | _, _ => s

/-- A transaction held for start-up takes the rest of its checks, STARTING having ended (R132). -/
def startHoldResume (s : State) : State :=
  match s.port with
  | .held t k .start _ =>
    if s.frontEnd = .starting ∨ s.frontEnd = .inReset then s else continueChecks s t k
  | _ => s

/-- The reason an expiry gives, by the cause of the hold (R131). -/
def expiryReason : HoldCause → RefusedReason
  | .start => .starting
  | .line => .stageFull
  | .bank => .holdLimit

/-- The hold timer expires: the held transaction is refused (R131). -/
def holdExpires (s : State) : State :=
  match s.port with
  | .held t _ c _ => refuse s t (expiryReason c)
  | _ => s

end Sys2Proof.Machine
end

