-- ==== Sys2Proof/Machine/FrontEnd.lean ====
section
/-! DEFINITION. Front-end control: entering a drain, the end of start-up, the PWARN input and the release from reset (chapter
9). -/

namespace Sys2Proof.Machine

/-- The state becomes DRAINING with the drain entry and the drain test (R145, R147). -/
def enterDraining (s : State) : State := drainTest (drainEntry { s with frontEnd := .draining })

/-- The new state at the end of STARTING, by the noted PWARN level (R145, item 1). -/
def leaveStarting (s : State) : State := if s.pwarnNoted then enterDraining s else { s with frontEnd := .ready }

/-- The age timer becomes RUNNING with the period TICK × 50 µs, TICK sampled now (R32). -/
def loadAgeTimer (s : State) : State := { s with ageTimer := some (s.settings.tick * 50) }

/-- The end of start-up: new state, age timer, held transaction, job choice, in that order (R145). DESIGN CHOICE (log 28): R45 and R145
have that first choice find the queue empty, while a THROUGH write held for start-up has just sealed its line (R26, R132); the choice
is made all the same, and starts its COMMIT (R43). -/
def endStartup (s : State) : State :=
  chooseJob (startHoldResume (loadAgeTimer (leaveStarting { s with scan := .off })))

/-- PWARN becomes asserted: the level is noted, and in READY the drain entry is made (R138, R145, R147). The seals bring the job
choice (R43). In reset no block notes the level (R138). -/
def pwarnRises (s : State) : State :=
  match s.frontEnd with
  | .inReset => { s with pwarn := true }
  | .ready => chooseJob (enterDraining { s with pwarn := true, pwarnNoted := true })
  | _ => { s with pwarn := true, pwarnNoted := true }

/-- PWARN becomes deasserted: the level is noted, and DRAINING or DRAINED returns to READY (R138, R149). -/
def pwarnFalls (s : State) : State :=
  match s.frontEnd with
  | .inReset => { s with pwarn := false }
  | .draining | .drained => { s with pwarn := false, pwarnNoted := false, frontEnd := .ready }
  | _ => { s with pwarn := false, pwarnNoted := false }

/-- STARTING is entered with the PWARN level noted and the blank check of J0 (R138, R140, R141). -/
def enterStarting (s : State) : State :=
  startBlankCheck
    { s with frontEnd := .starting, pwarnNoted := s.pwarn, resetnLow := false, scan := .blankCheck .j0 }
    (.journal .j0)

/-- Release from reset: STARTING, and a transaction still waiting at the bus is taken as a new one in STARTING (R137, R138,
R140). -/
def releaseReset (s : State) : State :=
  if s.frontEnd = .inReset then takeNextTransaction (enterStarting s) else s

end Sys2Proof.Machine
end

