-- ==== Sys2Proof/Machine/Sequencer.lean ====
section
/-! DEFINITION. The cell sequencer's steps: the start-up scan, the COMMIT, the rewrite, the recovery jobs and REPLAY, each taken
from the completion of a cell operation (chapters 3, 4, 6 and 9). -/

namespace Sys2Proof.Machine

/-! ## Records the sequencer sets -/

/-- The run-time state of journal `j` (R65). -/
def journalState (s : State) (j : Journal) : JournalState := s.journals.get (journalBank j)

/-- `s` with the run-time state of journal `j` set. -/
def setJournal (s : State) (j : Journal) (v : JournalState) : State :=
  { s with journals := s.journals.set (journalBank j) v }

/-- The quarantine record of `sec`'s bank names `sec`, with the ground given and pending job NONE (R78, R80, R104, R144). -/
def setQuarantine (s : State) (sec : SectorNo) (g : Ground) : State :=
  { s with quarantine := s.quarantine.set (bankOf sec) { sector := some sec, ground := g, pending := .none } }

/-- The quarantine record of `sec`'s bank names no sector and its pending job is NONE (R111, R112, R144). -/
def clearQuarantine (s : State) (sec : SectorNo) : State :=
  let record := { s.quarantine.get (bankOf sec) with sector := none, pending := .none }
  { s with quarantine := s.quarantine.set (bankOf sec) record }

/-! ## The start-up scan -/

/-- The scan's fourth step, or its end: a REPLAY from J1 if it was classified OPEN (R140). -/
def scanFourthStep (s : State) : State :=
  match s.journals.one with
  | .openFor sec => startReplay s .j1 sec
  | _ => endStartup { s with scan := .ended }

/-- The scan's third step: a REPLAY from J0 if it was classified OPEN (R140). -/
def scanThirdStep (s : State) : State :=
  match s.journals.zero with
  | .openFor sec => startReplay s .j0 sec
  | _ => scanFourthStep s

/-- The classification of `j` has ended: that of J1 follows that of J0, and the third step that of J1 (R140, R142). -/
def scanAfterClassification (s : State) (j : Journal) : State :=
  match j with
  | .j0 => startBlankCheck { s with scan := .blankCheck .j1 } (.journal .j1)
  | .j1 => scanThirdStep s

/-- The class of `j` sets its run-time state in the step that ends its classification (R142). -/
def classifyAs (s : State) (j : Journal) (v : JournalState) : State := scanAfterClassification (setJournal s j v) j

/-- CORRUPT: SPENT and a JOURNAL_CORRUPT entry with the target as read (R142). -/
def classifyCorrupt (s : State) (j : Journal) (target : BitVec 16) : State :=
  classifyAs (appendFault s (.journalCorrupt j target)) j .spent

/-- The scan starts the read of copy page `k + 1` with the sum so far (R141). -/
def scanReadCopy (s : State) (j : Journal) (target : SectorNo) (check : BitVec 16) (k : Fin 16) (sum : BitVec 16) : State :=
  startReadPage { s with scan := .copyRead j target check k sum } (copyPage j k)

/-- The header of `j` is judged from the page read (R141). -/
def scanHeader (s : State) (j : Journal) (header : Page) : State :=
  if !copyDoneSet header then classifyAs s j .spent
  else if restoreDoneSet header then classifyAs s j .spent
  else
    match headerSector j header with
    | none => classifyCorrupt s j (headerTarget header)
    | some sec => scanReadCopy s j sec (headerCheck header) 0 0

/-- A copy page has been read: its bytes join the sum; after page 16 the class is OPEN when the sum equals the check (R141). -/
def scanCopy (s : State) (j : Journal) (target : SectorNo) (check : BitVec 16) (k : Fin 16) (sum : BitVec 16)
    (page : Page) : State :=
  if h : k.val + 1 < 16 then scanReadCopy s j target check ⟨k.val + 1, h⟩ (sum + pageSum page)
  else if sum + pageSum page = check then classifyAs s j (.openFor target)
  else classifyCorrupt s j (BitVec.ofNat 16 target.val)

/-- A blank check of the scan has completed (R141). -/
def scanBlank (s : State) (blank : Bool) : State :=
  match s.frontEnd, s.scan with
  | .starting, .blankCheck j =>
    if blank then classifyAs s j .blank
    else startReadPage { s with scan := .headerRead j } (headerPage j)
  | _, _ => s

/-- A read page of the scan has completed (R141). -/
def scanRead (s : State) (page : Page) : State :=
  match s.frontEnd, s.scan with
  | .starting, .headerRead j => scanHeader s j page
  | .starting, .copyRead j target check k sum => scanCopy s j target check k sum page
  | _, _ => s

/-- The end of a REPLAY's end step: buffer EMPTY, record removed, no job choice, and the scan's next step (R144). -/
def endReplay (s : State) : State :=
  let ended := { s with job := none, op := none, buffer := .empty }
  match s.scan with
  | .replay .j0 => scanFourthStep ended
  | _ => endStartup { ended with scan := .ended }

/-! ## Lines of a job -/

/-- The lines a job holds: its head and its members (R42). -/
def jobLines (j : Job) : List LineNo := j.head.toList ++ j.members

/-- A COMMIT succeeds, elided or programmed (R54). -/
def commitSucceeds (s : State) (j : Job) : State := endJob (handBackRetired s (jobLines j))

/-- A COMMIT whose program loop failed (R55). -/
def commitFails (s : State) (j : Job) (page : PageNo) (cause : LoopFailure) (pulses : Nat) : State :=
  endJob (appendFault (handBackFailed s (jobLines j))
    (.programFail page cause pulses (cascadeOf s (jobLines j)).length))

/-! ## The rewrite -/

/-- A rewrite whose journal could not be erased (R68). -/
def journalEraseFails (s : State) (j : Job) : State :=
  endJob (appendFault (handBackFailed s (jobLines j))
    (.journalFail (journalFor j.sector) .erase j.sector (cascadeOf s (jobLines j)).length))

/-- A rewrite that finds its journal OPEN for another sector (R69). -/
def journalIsHeld (s : State) (j : Job) (page : PageNo) : State :=
  endJob (appendFault (handBackFailed s (jobLines j))
    (.journalHeld page (journalFor j.sector) (cascadeOf s (jobLines j)).length))

/-- The step a fault entry names for a failed step. -/
def faultStepOf : FailedStep → FaultStep
  | .copy => .copy
  | .header => .header
  | .copyDone => .copyDone

/-- The end step of a rewrite that failed in COPY, HEADER or COPY_DONE: head and members fail, their pages are cascaded, the
entry counts every failed line but the head, and the journal is SPENT, or BLANK after a scrub that succeeded (R75). -/
def copyStepFails (s : State) (j : Job) (step : FailedStep) (after : JournalState) : State :=
  endJob (setJournal
    (appendFault (handBackFailed s (jobLines j))
      (.journalFail (journalFor j.sector) (faultStepOf step) j.sector
        (j.members.length + (cascadeOf s (jobLines j)).length)))
    (journalFor j.sector) after)

/-- LOAD begins: the buffer becomes ASSEMBLING and the first page of the sector is read (R64, R70). -/
def startLoad (s : State) (j : Job) : State :=
  startReadPage
    { s with job := some { j with stage := .load 0, loop := none }, buffer := .assembling j.sector erasedImage }
    (.user (sectorPage j.sector 0))

/-- The journal check of a rewrite (R67). A journal UNKNOWN, or OPEN naming the rewrite's own sector, is not found here (R67); the
model leaves the job where it stands (log 18). -/
def journalCheck (s : State) (j : Job) (page : PageNo) : State :=
  match journalState s (journalFor j.sector) with
  | .blank => startLoad s j
  | .spent => startErase s j (.journal (journalFor j.sector))
  | .openFor t => if t = j.sector then { s with job := some j } else journalIsHeld s j page
  | .unknown => { s with job := some j }

/-- HEADER: the header image is programmed into page 0 of the journal, which is SPENT from the first pulse (R74). -/
def startHeader (s : State) (j : Job) : State :=
  let image := headerImageOf j.sector (j.copyCheck.getD 0)
  startProgram (setJournal s (journalFor j.sector) .spent)
    { j with stage := .header, headerImage := some image } (headerPage (journalFor j.sector)) image erasedPage

/-- COPY from buffer page `k` on: the next page that is not FFh throughout is programmed into its copy page, the journal being SPENT
from the first pulse; after the last page comes HEADER (R73). -/
def copyFrom (s : State) (j : Job) (img : Image) (k : Nat) : State :=
  match nextPageToProgram img k with
  | some n =>
    startProgram (setJournal s (journalFor j.sector) .spent) { j with stage := .copy n }
      (copyPage (journalFor j.sector) n) img[n] erasedPage
  | none => startHeader s j

/-- The staged bytes of line `i` laid over its page of a sector image (R71). -/
def layLine (s : State) (img : Image) (i : LineNo) : Image :=
  match s.lines[i].page with
  | some p => img.set (pageInSector p) (overlay s.lines[i].staged img[pageInSector p])
  | none => img

/-- The SEALED lines of a sector in commit-queue order (R71). -/
def linesToAbsorb (s : State) (sec : SectorNo) : List LineNo :=
  s.commitQueue.filter fun i => s.lines[i].page.any fun p => sectorOf p == sec

/-- MERGE: head and absorbed lines are laid over the loaded sector, the absorbed lines become COMMITTING members, the copy check is
computed, the buffer is LOADED and COPY begins (R71). -/
def merge (s : State) (j : Job) (img : Image) : State :=
  let absorbed := linesToAbsorb s j.sector
  let image := absorbed.foldl (layLine s) (j.head.toList.foldl (layLine s) img)
  copyFrom { absorbed.foldl takeLine s with buffer := .loaded j.sector image }
    { j with members := j.members ++ absorbed, copyCheck := some (imageSum image), loop := none } image 0

/-- Page `k` of the sector has been read by LOAD (R70). -/
def loadNext (s : State) (j : Job) (k : Fin 16) (page : Page) : State :=
  match s.buffer with
  | .assembling sec img =>
    if h : k.val + 1 < 16 then
      startReadPage
        { s with
          job := some { j with stage := .load ⟨k.val + 1, h⟩ }
          buffer := .assembling sec (img.set k page) }
        (.user (sectorPage j.sector ⟨k.val + 1, h⟩))
    else merge s j (img.set k page)
  | _ => s

/-- COPY_DONE: the marked image is programmed over the header image (R74). -/
def startCopyDone (s : State) (j : Job) : State :=
  let header := j.headerImage.getD erasedPage
  startProgram s { j with stage := .copyDone, headerImage := some (withCopyDone header) }
    (headerPage (journalFor j.sector)) (withCopyDone header) header

/-- A rewrite or recovery job begins TARGET_ERASE (R76, R109). -/
def startTargetErase (s : State) (j : Job) : State :=
  startErase s { j with stage := .targetErase } (.user j.sector)

/-- The mark of COPY_DONE is verified: the journal is OPEN naming the sector and TARGET_ERASE begins (R74). -/
def copyDoneSucceeds (s : State) (j : Job) : State :=
  startTargetErase (setJournal s (journalFor j.sector) (.openFor j.sector)) j

/-- RETIRE and the start of CLOSE: head and members retire, and the closed image is programmed over the marked image (R79,
R80). -/
def retireAndClose (s : State) (j : Job) : State :=
  let marked := j.headerImage.getD erasedPage
  startProgram (handBackRetired s (jobLines j))
    { j with stage := .close, headerImage := some (withRestoreDone marked) }
    (headerPage (journalFor j.sector)) (withRestoreDone marked) marked

/-- TARGET_PROGRAM has ended: a rewrite retires its lines and closes, a recovery job begins its close step (R77, R79, R109). -/
def targetProgrammed (s : State) (j : Job) : State :=
  if j.kind = .rewrite then retireAndClose s j else startCloseStep s j

/-- TARGET_PROGRAM from buffer page `k` on (R77, R109). -/
def programFrom (s : State) (j : Job) (k : Nat) : State :=
  match s.buffer with
  | .loaded _ img =>
    match nextPageToProgram img k with
    | some n =>
      startProgram s { j with stage := .targetProgram n } (.user (sectorPage j.sector n)) img[n] erasedPage
    | none => targetProgrammed s j
  | _ => s

/-- A rewrite that failed in TARGET_ERASE or TARGET_PROGRAM: quarantine with ground COPY, lines retired, entry cascade and
QUARANTINED entry (R78). -/
def rewriteTargetFails (s : State) (j : Job) (step : FaultStep) (pulses : Nat) : State :=
  endJob (appendFault
    (entryCascade (handBackRetired (setQuarantine s j.sector .copy) (jobLines j)) j.sector)
    (.quarantined j.sector step pulses))

/-- A rewrite whose close mark and fallback erase both failed: quarantine with ground CELLS (R80). -/
def rewriteCloseFails (s : State) (j : Job) (pulses : Nat) : State :=
  endJob (appendFault (entryCascade (setQuarantine s j.sector .cells) j.sector)
    (.quarantined j.sector .close pulses))

/-! ## The recovery jobs and REPLAY -/

/-- Copy page `k + 1` has been read: after page 16 the buffer is LOADED and TARGET_ERASE begins (R108). -/
def loadCopyNext (s : State) (j : Job) (k : Fin 16) (page : Page) : State :=
  match s.buffer with
  | .assembling sec img =>
    if h : k.val + 1 < 16 then
      startReadPage
        { s with
          job := some { j with stage := .loadCopy ⟨k.val + 1, h⟩ }
          buffer := .assembling sec (img.set k page) }
        (copyPage (journalFor j.sector) ⟨k.val + 1, h⟩)
    else startTargetErase { s with buffer := .loaded sec (img.set k page) } j
  | _ => s

/-- A target step of a RESTORE or a REPLAY failed (R111, R144). -/
def recoveryTargetFails (s : State) (j : Job) (step : FaultStep) (pulses : Nat) : State :=
  if j.kind = .replay then
    endReplay (appendFault (setQuarantine s j.sector .copy) (.quarantined j.sector step pulses))
  else endJob (appendFault (setQuarantine s j.sector .copy) (.restoreFail j.sector))

/-- The close step of a recovery job succeeded, leaving its journal SPENT or BLANK (R111, R112, R144). -/
def closeStepSucceeds (s : State) (j : Job) (after : JournalState) : State :=
  let cleared := clearQuarantine (setJournal s (journalFor j.sector) after) j.sector
  match j.kind with
  | .replay => endReplay (appendFault cleared (.replayed j.sector))
  | .restore => endJob (appendFault cleared (.restored j.sector))
  | _ => endJob cleared

/-- The close step of a recovery job failed, mark and fallback erase: the record's ground is CELLS (R111, R112, R144). -/
def closeStepFails (s : State) (j : Job) (pulses : Nat) : State :=
  if j.kind = .replay then
    endReplay (appendFault (setQuarantine s j.sector .cells) (.quarantined j.sector .close pulses))
  else
    endJob (appendFault (setQuarantine s j.sector .cells) (.journalFail (journalFor j.sector) .close j.sector 0))

/-- The header of the journal has been read by the close step: the mark already stands, or it is programmed (R110). -/
def closeHeaderRead (s : State) (j : Job) (header : Page) : State :=
  if withRestoreDone header = header then closeStepSucceeds s j .spent
  else startProgram s j (headerPage (journalFor j.sector)) (withRestoreDone header) header

/-! ## The outcomes of the loops -/

/-- What a verify decides (R51). -/
inductive Verdict where
  | success
  | again
  | failed (cause : LoopFailure)
deriving DecidableEq, Repr

/-- The first case of R51 that applies; PGM_MAX as the setting stands at this verify (R53). -/
def verdictOf (image read : Page) (pulses pgmMax : Nat) : Verdict :=
  if read = image then .success
  else if lacksOneBit image read then .failed .disturbed
  else if pulses < pgmMax then .again
  else .failed .exhausted

/-- A program loop ended in SUCCESS: the step that follows, by the stage (R54, R73, R74, R77, R80, R110). -/
def programSucceeds (s : State) (j : Job) : State :=
  match j.stage with
  | .program => commitSucceeds s j
  | .copy k =>
    match s.buffer with
    | .loaded _ img => copyFrom s j img (k.val + 1)
    | _ => s
  | .header => startCopyDone s j
  | .copyDone => copyDoneSucceeds s j
  | .targetProgram k => programFrom s j (k.val + 1)
  | .close =>
    if j.kind = .rewrite then endJob (setJournal s (journalFor j.sector) .spent)
    else closeStepSucceeds s j .spent
  | _ => s

/-- A target step failed (R78, R111, R144). -/
def targetFails (s : State) (j : Job) (step : FaultStep) (pulses : Nat) : State :=
  if j.kind = .rewrite then rewriteTargetFails s j step pulses else recoveryTargetFails s j step pulses

/-- A program loop ended in EXHAUSTED or DISTURBED: what follows, by the stage (R55, R75, R78, R80, R110, R111, R144). -/
def programFails (s : State) (j : Job) (cause : LoopFailure) (pulses : Nat) : State :=
  match j.stage with
  | .program =>
    match j.page with
    | some p => commitFails s j p cause pulses
    | none => s
  | .copy _ => copyStepFails s j .copy .spent
  | .header => copyStepFails s j .header .spent
  | .copyDone =>
    startErase s { j with stage := .scrub, failedStep := some .copyDone } (.journal (journalFor j.sector))
  | .targetProgram _ => targetFails s j .program pulses
  | .close => startErase s { j with stage := .closeErase } (.journal (journalFor j.sector))
  | _ => s

/-- An erase loop ended in SUCCESS: what follows, by the stage (R67, R75, R77, R80, R109, R110). -/
def eraseSucceeds (s : State) (j : Job) : State :=
  match j.stage with
  | .journalCheck => startLoad (setJournal s (journalFor j.sector) .blank) j
  | .scrub => copyStepFails s j (j.failedStep.getD .copyDone) .blank
  | .targetErase => programFrom s { j with stage := .targetProgram 0 } 0
  | .closeErase =>
    if j.kind = .rewrite then endJob (setJournal s (journalFor j.sector) .blank)
    else closeStepSucceeds s j .blank
  | _ => s

/-- An erase loop ended in FAILED: what follows, by the stage (R68, R75, R76, R80, R110, R111, R144). -/
def eraseFails (s : State) (j : Job) (pulses : Nat) : State :=
  match j.stage with
  | .journalCheck => journalEraseFails s j
  | .scrub => copyStepFails s j (j.failedStep.getD .copyDone) .spent
  | .targetErase => targetFails s j .erase pulses
  | .closeErase => if j.kind = .rewrite then rewriteCloseFails s j pulses else closeStepFails s j pulses
  | _ => s

/-! ## The COMMIT's pre-read -/

/-- The head line, COMMITTING, is filled with the target image (R42, R47). -/
def fillLine (s : State) (i : LineNo) (image : Page) : State :=
  updateLine s i fun l => if l.state = .committing then { l with staged := filledWith image } else l

/-- The pre-read has completed: target image and fill, elision, needs-erase test (R47 to R49). -/
def preReadDone (s : State) (j : Job) (page : Page) : State :=
  match j.head, j.page with
  | some i, some p =>
    let image := overlay s.lines[i].staged page
    let filled := fillLine s i image
    if image = page then commitSucceeds filled j
    else if lacksOneBit image page then
      journalCheck filled { j with kind := .rewrite, stage := .journalCheck } p
    else startProgram filled { j with stage := .program } (.user p) image page
  | _, _ => s

/-! ## Completions -/

/-- A verify has completed (R51, R52). -/
def verifyDone (s : State) (j : Job) (cp : CellPage) (image : Page) (pulses : Nat) (read : Page) : State :=
  match verdictOf image read pulses s.settings.pgmMax with
  | .success => programSucceeds s { j with loop := none }
  | .again => nextProgramPulse s j cp image read pulses
  | .failed cause => programFails s { j with loop := none } cause pulses

/-- The running job receives a page it has read (R5): a verify, the pre-read, a LOAD or copy read, or the close step's header
read. -/
def jobReads (s : State) (j : Job) (page : Page) : State :=
  match j.loop with
  | some (.program cp image _ pulses) => verifyDone s j cp image pulses page
  | some (.erase _ _) => s
  | none =>
    match j.stage with
    | .preRead => preReadDone s j page
    | .load k => loadNext s j k page
    | .loadCopy k => loadCopyNext s j k page
    | .close => closeHeaderRead s j page
    | _ => s

/-- The running job receives the result of a blank check: its erase loop ends or applies another pulse, ERS_MAX as the setting
stands now (R56). -/
def jobBlankCheck (s : State) (j : Job) (blank : Bool) : State :=
  match j.loop with
  | some (.erase t pulses) =>
    if blank then eraseSucceeds s { j with loop := none }
    else if pulses < s.settings.ersMax then startErasePulse s j t (pulses + 1)
    else eraseFails s { j with loop := none } pulses
  | _ => s

/-- The operation record is removed (R5). -/
def removeOp (s : State) : State := { s with op := none }

/-- A READ_PAGE completes: its 64 bytes go to the job or to the scan (R5, R6). -/
def readPageDelivered (s : State) (cp : CellPage) : State :=
  match s.job with
  | some j => jobReads (removeOp s) j (readCells s.cells cp)
  | none => scanRead (removeOp s) (readCells s.cells cp)

/-- A BLANK_CHECK completes: its result goes to the job or to the scan (R5, R7). -/
def blankCheckDelivered (s : State) (t : Target) : State :=
  match s.job with
  | some j => jobBlankCheck (removeOp s) j (isBlank s.cells t)
  | none => scanBlank (removeOp s) (isBlank s.cells t)

/-- A pulse completes: the job starts its verify READ_PAGE or its BLANK_CHECK (R51, R56). -/
def pulseDelivered (s : State) : State :=
  match s.job with
  | some j =>
    match j.loop with
    | some (.program cp _ _ _) => startReadPage (removeOp s) cp
    | some (.erase t _) => startBlankCheck (removeOp s) t
    | none => removeOp s
  | none => removeOp s

/-! ## The phase timer -/

/-- The phase timer expires in SETUP: the pulse width is sampled and recorded, and the pulse is applied (R10, R11). -/
def setupExpires (s : State) : State :=
  match s.op with
  | some (.programPulse cp latch .setup) =>
    { s with op := some (.programPulse cp latch (.pulse s.settings.pgmPulse)) }
  | some (.erasePulse t .setup) => { s with op := some (.erasePulse t (.pulse (s.settings.ersPulse * 250))) }
  | _ => s

/-- The phase timer expires in PULSE: the pulse is removed, having left in the cells what R8 or R9 allows (R10). -/
def pulseExpires (s : State) (left : PulseResidue) : State :=
  match s.op with
  | some (.programPulse cp latch (.pulse w)) =>
    { s with op := some (.programPulse cp latch (.hold w)), cells := programCells s.cells cp latch left }
  | some (.erasePulse t (.pulse w)) =>
    { s with op := some (.erasePulse t (.hold w)), cells := eraseCells s.cells t left }
  | _ => s

/-- The phase timer expires in HOLD: the operation completes and the job goes on (R10); a held read is evaluated (R91). -/
def holdExpiresInPhase (s : State) : State :=
  match s.op with
  | some (.programPulse cp _ (.hold _)) => evaluateHeldRead cp.target.bank (pulseDelivered s)
  | some (.erasePulse t (.hold _)) => evaluateHeldRead t.bank (pulseDelivered s)
  | _ => s

/-- A READ_PAGE in flight completes (R6); a held read is evaluated after the sequencer's step (R91). -/
def readPageCompletes (s : State) : State :=
  match s.op with
  | some (.readPage cp) => evaluateHeldRead cp.target.bank (readPageDelivered s cp)
  | _ => s

/-- A BLANK_CHECK in flight completes (R7); a held read is evaluated after the sequencer's step (R91). -/
def blankCheckCompletes (s : State) : State :=
  match s.op with
  | some (.blankCheck t) => evaluateHeldRead t.bank (blankCheckDelivered s t)
  | _ => s

end Sys2Proof.Machine
end

