-- ==== Sys2Proof/Machine/CommandUnit.lean ====
section
/-! DEFINITION. The command unit: the fourteen commands, each with its checks in the order of R172, and the validation of a frame
(chapter 12; R167). -/

namespace Sys2Proof.Machine

/-- The command unit answers with a status and no data. -/
def answerStatus (s : State) (st : Status) (tag : Byte) : State := respond s (plainResponse st tag)

/-- IDENT returns the identity block (R173). -/
def runIdent (s : State) (tag : Byte) : State := respond s (dataResponse tag identityBlock)

/-- STATUS returns the status block as the state stands (R174). -/
def runStatus (s : State) (tag : Byte) : State := respond s (dataResponse tag (statusBlock s))

/-- GET_REGION returns entry `n`, valid or not; RANGE outside 0 to 7 (R175). -/
def runGetRegion (s : State) (tag n : Byte) : State :=
  if h : n.toNat < 8 then respond s (dataResponse tag (regionRecord s.regions[n.toNat])) else answerStatus s .range tag

/-- SET_REGION replaces all five fields of entry `n`, or is refused with RANGE (R117, R175). -/
def runSetRegion (s : State) (tag n valid : Byte) (base limit : BitVec 16) (kind delay : Byte) : State :=
  if h : n.toNat < 8 then
    match regionOfRecord valid base limit kind delay with
    | some r => answerStatus { s with regions := s.regions.set n.toNat r } .ok tag
    | none => answerStatus s .range tag
  else answerStatus s .range tag

/-- GET_SETTINGS returns the settings block (R176). -/
def runGetSettings (s : State) (tag : Byte) : State := respond s (dataResponse tag (settingsBlock s.settings))

/-- SET_SETTING replaces one setting, or is refused with RANGE (R176). -/
def runSetSetting (s : State) (tag field value : Byte) : State :=
  match withSetting s.settings field value with
  | some c => answerStatus { s with settings := c } .ok tag
  | none => answerStatus s .range tag

/-- A response is deferred and the flush condition tested (R169, R177); in SYNC_WAIT, where a break fell before the execution, no
response will be sent and none is deferred (R165). -/
def deferResponse (s : State) (tag : Byte) : State :=
  if s.link.state = .syncWait then s else flushTest { s with unit := { s.unit with deferred := some tag } }

/-- FLUSH seals every OPEN line; wait 0 answers OK at once, wait 1 when the flush condition is met (R34, R169, R177). -/
def runFlush (s : State) (tag wait : Byte) : State :=
  if wait ≠ 0#8 ∧ wait ≠ 1#8 then answerStatus s .range tag
  else if s.frontEnd = .starting then answerStatus s .state tag
  else if wait = 0#8 then answerStatus (chooseJob (sealAll s)) .ok tag
  else deferResponse (chooseJob (sealAll s)) tag

/-- READ_FAULT returns the oldest entry, or EMPTY (R178). -/
def runReadFault (s : State) (tag : Byte) : State :=
  match s.log.entries with
  | e :: _ => respond s (dataResponse tag (faultRecord e))
  | [] => answerStatus s .empty tag

/-- The dropped count as a clear flag leaves it. -/
def droppedAfter (clear : Byte) (l : FaultLog) : Nat := if clear = 1#8 then 0 else l.dropped

/-- ACK_FAULT removes the oldest entry when its number is the one given (R155, R179). -/
def runAckFault (s : State) (tag : Byte) (seq : BitVec 16) (clear : Byte) : State :=
  if clear ≠ 0#8 ∧ clear ≠ 1#8 then answerStatus s .range tag
  else
    match s.log.entries with
    | [] => answerStatus { s with log := { s.log with dropped := droppedAfter clear s.log } } .state tag
    | e :: rest =>
      if e.seq = seq then
        answerStatus { s with log := { s.log with entries := rest, dropped := droppedAfter clear s.log } } .ok tag
      else answerStatus s .stale tag

/-- RETRY_PAGE returns the FAILED lines of a page to the commit queue (R101, R180). -/
def runRetryPage (s : State) (tag : Byte) (page : BitVec 16) : State :=
  match pageOfWord page with
  | none => answerStatus s .range tag
  | some p =>
    if s.frontEnd ≠ .ready then answerStatus s .state tag
    else if !isBlocked s p || isNamed s (sectorOf p) then answerStatus s .state tag
    else answerStatus (chooseJob (retryLines s p)) .ok tag

/-- DISCARD_PAGE frees the FAILED lines of a page (R102, R181); a THROUGH write opened into a freed line seals it, which brings the
job choice (R43). -/
def runDiscardPage (s : State) (tag : Byte) (page : BitVec 16) : State :=
  match pageOfWord page with
  | none => answerStatus s .range tag
  | some p =>
    if s.frontEnd = .starting then answerStatus s .state tag
    else if !isBlocked s p then answerStatus s .state tag
    else answerStatus (chooseJob (discardLines s p)) .ok tag

/-- The pending job of a bank's record is set, and the job choice is made (R107). -/
def setPending (s : State) (b : Bank) (p : PendingJob) : State :=
  chooseJob { s with quarantine := s.quarantine.set b { s.quarantine.get b with pending := p } }

/-- RESTORE_SECTOR and DROP_JOURNAL request a recovery job of a bank (R107, R182). -/
def runRecovery (s : State) (tag bank : Byte) (p : PendingJob) : State :=
  match bankOfCode bank with
  | none => answerStatus s .range tag
  | some b =>
    if s.frontEnd ≠ .ready then answerStatus s .state tag
    else if (s.quarantine.get b).sector = none then answerStatus s .state tag
    else if (s.quarantine.get b).pending ≠ .none then answerStatus s .busy tag
    else answerStatus (setPending s b p) .ok tag

/-- RESET_PART builds its response OK; the reset follows it (R183), and is due at once where a break fell before the execution, so
that no response is sent (R165, log 14). -/
def runResetPart (s : State) (tag : Byte) : State :=
  if s.frontEnd = .starting then answerStatus s .state tag
  else if s.link.state = .syncWait then { s with unit := { s.unit with resetDue := true } }
  else respond s { status := .ok, tag := tag, data := [], resets := true }

/-- A validated command is executed (R172). The argument lists of other lengths have been answered BAD_LENGTH before (R167). -/
def runCommand (s : State) (cmd tag : Byte) (args : List Byte) : State :=
  match args with
  | [] =>
    if cmd = 0x01#8 then runIdent s tag
    else if cmd = 0x02#8 then runStatus s tag
    else if cmd = 0x12#8 then runGetSettings s tag
    else if cmd = 0x30#8 then runReadFault s tag
    else if cmd = 0x7F#8 then runResetPart s tag
    else answerStatus s .badLength tag
  | [a] =>
    if cmd = 0x10#8 then runGetRegion s tag a
    else if cmd = 0x20#8 then runFlush s tag a
    else if cmd = 0x50#8 then runRecovery s tag a .restore
    else if cmd = 0x51#8 then runRecovery s tag a .close
    else answerStatus s .badLength tag
  | [a, b] =>
    if cmd = 0x13#8 then runSetSetting s tag a b
    else if cmd = 0x40#8 then runRetryPage s tag (wordOf a b)
    else if cmd = 0x41#8 then runDiscardPage s tag (wordOf a b)
    else answerStatus s .badLength tag
  | [a, b, c] => if cmd = 0x31#8 then runAckFault s tag (wordOf a b) c else answerStatus s .badLength tag
  | [n, v, b0, b1, l0, l1, k, d] =>
    if cmd = 0x11#8 then runSetRegion s tag n v (wordOf b0 b1) (wordOf l0 l1) k d
    else answerStatus s .badLength tag
  | _ => answerStatus s .badLength tag

/-- The sum of the bytes of a frame is 0 modulo 256 (R167). -/
def checkHolds (cmd tag len : Byte) (args : List Byte) (check : Byte) : Bool :=
  (cmd + tag + len + args.foldl (· + ·) 0#8 + check) == 0#8

/-- The command unit validates a complete frame and executes it: check, length fault, command, length, in that order (R167). -/
def executeFrame (s : State) (f : Frame) : State :=
  match f with
  | .lengthFault _ tag _ => answerStatus s .badLength tag
  | .whole cmd tag len args check =>
    if !checkHolds cmd tag len args check then answerStatus s .badCheck tag
    else
      match requestLength cmd with
      | none => answerStatus s .badCommand tag
      | some n => if len.toNat = n then runCommand s cmd tag args else answerStatus s .badLength tag

end Sys2Proof.Machine
end

