-- ==== Sys2Proof/Machine/Receiver.lean ====
section
/-! DEFINITION. The service link's receiver and the ends of what the transmitter sends: rate sync, frames, gaps, framing errors,
breaks, overruns and the hand-over of frames (chapter 11). -/

namespace Sys2Proof.Machine

/-! ## Rate sync (R162) -/

/-- The link is in SYNC_WAIT and the part is out of reset: the receiver looks for a sync byte (R161, R170). -/
def seeksSync (s : State) : Bool := s.link.state == .syncWait && s.frontEnd != .inReset

/-- A falling edge begins a candidate while none is in progress (R162). -/
def beginCandidate (s : State) : State :=
  if seeksSync s then { s with link := { s.link with candidate := true } } else s

/-- The candidate in progress is abandoned (R162). -/
def abandonCandidate (s : State) : State :=
  if seeksSync s then { s with link := { s.link with candidate := false } } else s

/-- A candidate is accepted: a time of 8 µs to 832 µs to the fifth fall, a byte that reads 55h and a stop bit at 1 (R162). -/
def acceptsCandidate (measured : Nat) (byte : Byte) (stop : Bool) : Bool :=
  decide (8000 ≤ measured) && decide (measured ≤ 832000) && byte == 0x55#8 && stop

/-- A candidate byte is judged: accepted, the bit time is kept, the link is IDLE and the sync answer is sent (R162, log 13). -/
def judgeCandidate (s : State) (measured : Nat) (byte : Byte) (stop : Bool) : State :=
  if seeksSync s && acceptsCandidate measured byte stop then
    { s with link := { s.link with
        state := .idle, bitTime := some measured, candidate := false, transmitter := .syncAnswer none } }
  else abandonCandidate s

/-- The byte of an abandoned response is complete on STX (R165, log 26). -/
def byteCompleted (s : State) : State := { s with link := { s.link with completing := none } }

/-- The sync answer has been sent, and so has a byte that stood before it: a response built behind it begins (R162, R165, R168). -/
def syncAnswerEnds (s : State) : State :=
  match s.link.transmitter with
  | .syncAnswer none => byteCompleted { s with link := { s.link with transmitter := .resting } }
  | .syncAnswer (some r) => beginResponse (byteCompleted s) r
  | _ => s

/-! ## Receiving frames (R163, R166) -/

/-- Bytes are received: outside SYNC_WAIT, out of reset, the quiet wait off (R163, R164). -/
def receives (s : State) : Bool :=
  s.link.state != .syncWait && s.frontEnd != .inReset && !s.link.quietWait

/-- The frame in progress ends with nothing handed on: a link that was RECEIVING becomes IDLE (R161). -/
def dropFrame (s : State) : State :=
  { s with link := { s.link with
      frame := none, state := if s.link.state = .receiving then .idle else s.link.state } }

/-- A frame is complete: RECEIVING hands it to the command unit and becomes BUSY; BUSY holds it as the buffered frame (R163,
R166). -/
def completeFrame (s : State) (f : Frame) : State :=
  match s.link.state with
  | .receiving => executeFrame { s with link := { s.link with frame := none, state := .busy } } f
  | .busy => { s with link := { s.link with frame := none, buffered := some f } }
  | _ => { s with link := { s.link with frame := none } }

/-- The quiet wait is turned on (R163, R164). -/
def quietOn (s : State) : State := { s with link := { s.link with quietWait := true } }

/-- The frame that some bytes make up: it ends at a LEN above 12, or at its LEN + 4 bytes; none while it goes on (R163). -/
def frameOf (bytes : List Byte) : Option Frame :=
  match bytes with
  | [cmd, tag, len] => if 12 < len.toNat then some (.lengthFault cmd tag len) else none
  | cmd :: tag :: len :: rest =>
    if rest.length = len.toNat + 1 then some (.whole cmd tag len rest.dropLast (rest.getLastD 0#8)) else none
  | _ => none

/-- The quiet wait is turned on by a frame with a length fault (R163). -/
def quietAfter (s : State) (f : Frame) : State :=
  match f with
  | .lengthFault _ _ _ => quietOn s
  | .whole _ _ _ _ _ => s

/-- The bytes kept of a frame after one more has come: the frame is complete, or goes on (R163). -/
def keepBytes (s : State) (bytes : List Byte) : State :=
  match frameOf bytes with
  | some f => completeFrame (quietAfter s f) f
  | none => { s with link := { s.link with frame := some (.keeping bytes) } }

/-- The bytes counted of an overrun frame after byte number `n`, its LEN byte being `len` when it has come (R166). -/
def countBytes (s : State) (n : Nat) (len : Option Byte) : State :=
  match len with
  | some l =>
    if 12 < l.toNat then dropFrame (quietOn s)
    else if n = l.toNat + 4 then dropFrame s
    else { s with link := { s.link with frame := some (.overrun n len) } }
  | none => { s with link := { s.link with frame := some (.overrun n len) } }

/-- An overrun frame begins: its first start bit comes while the buffered frame is held (R166, log 12). -/
def beginOverrun (s : State) : State :=
  { s with link := { s.link with frame := some (.overrun 0 none), overrunFlag := true } }

/-- One more byte of the frame in progress (R163, R166). -/
def joinFrame (s : State) (byte : Byte) : State :=
  match s.link.frame with
  | some (.keeping bytes) => keepBytes s (bytes ++ [byte])
  | some (.overrun n len) => countBytes s (n + 1) (if n + 1 = 3 then some byte else len)
  | none => s

/-- A frame begins: an overrun when the buffered frame is held, else a frame that is kept; IDLE becomes RECEIVING (R161, R163,
R166). -/
def beginFrame (s : State) : State :=
  if s.link.buffered.isSome then beginOverrun s
  else
    { s with link := { s.link with
        frame := some (.keeping []), state := if s.link.state = .idle then .receiving else s.link.state } }

/-- A start bit comes: the first of a frame begins it, any other changes nothing (R161, R166). -/
def startBit (s : State) : State := if receives s && s.link.frame.isNone then beginFrame s else s

/-- A byte with a valid stop bit has been received (R163). Its start bit began the frame, here where no OVERRUN command brought it
before (log 25). -/
def receiveByte (s : State) (byte : Byte) : State :=
  if receives s then joinFrame (startBit s) byte else s

/-- The bytes of a frame received one after another (log 11). -/
def receiveBytes (s : State) (bytes : List Byte) : State := bytes.foldl receiveByte s

/-- A gap abandons the frame in progress without flag or response (R163). -/
def gapFound (s : State) : State := if receives s && s.link.frame.isSome then dropFrame s else s

/-- A framing error discards the frame in progress, sets FRAMING and turns the quiet wait on; with the quiet wait already on it sets
nothing (R164). -/
def framingErrorFound (s : State) : State :=
  if receives s then
    quietOn (dropFrame { s with link := { s.link with framingFlag := true } })
  else s

/-- SRX has been at 1 for 40 bit times: the quiet wait is off (R164). -/
def quietEnds (s : State) : State := { s with link := { s.link with quietWait := false } }

/-- The response that a break cancels belonged to RESET_PART (R165, R183). -/
def responseResets (s : State) : Bool :=
  match s.link.transmitter with
  | .response _ resets => resets
  | .syncAnswer (some r) => r.resets
  | _ => false

/-- The transmitter after a break: no further byte of a response (R165); a sync answer on STX is completed (DEDUCED, log 22). A sync
answer that still waits behind a byte being completed is not begun, there being no bit time to send it at (R161, R162, log 26). -/
def transmitterAfterBreak (l : Link) : Transmitter :=
  match l.transmitter with
  | .syncAnswer _ => if l.completing.isSome then .resting else .syncAnswer none
  | _ => .resting

/-- The byte that STX completes after a break: of a response being sent, the byte on STX at that moment, which the free value picks
(R165, log 26); else the byte it was completing before. -/
def byteLeftOnStx (s : State) : Option Byte :=
  match s.link.transmitter with
  | .response bytes _ => bytes[Config.byteOnStx s.freeIndex % bytes.length]?
  | _ => s.link.completing

/-- The counter of free values after a break: it advances where one was used (log 26). -/
def freeIndexAfterBreak (s : State) : Nat :=
  match s.link.transmitter with
  | .response _ _ => s.freeIndex + 1
  | _ => s.freeIndex

/-- A break is recognised, outside SYNC_WAIT: frames discarded, deferral cancelled, response abandoned but for the byte on STX, bit time
discarded, quiet wait off, SYNC_WAIT; the flags are kept (R165). In SYNC_WAIT the long low level is an abandoned candidate (R165). -/
def breakFound (s : State) : State :=
  if s.link.state = .syncWait then abandonCandidate s
  else
    { s with
      link := { s.link with
        state := .syncWait, bitTime := none, candidate := false, frame := none, buffered := none, quietWait := false,
        transmitter := transmitterAfterBreak s.link, completing := byteLeftOnStx s }
      unit := { s.unit with deferred := none, resetDue := s.unit.resetDue || responseResets s }
      freeIndex := freeIndexAfterBreak s }

/-- The link after a response has been sent: the buffered frame is handed over and executed, or the link is RECEIVING or IDLE
(R161, R166). -/
def linkMovesOn (s : State) : State :=
  match s.link.buffered with
  | some f => executeFrame { s with link := { s.link with buffered := none, state := .busy } } f
  | none => { s with link := { s.link with state := if s.link.frame.isSome then .receiving else .idle } }

/-- The last byte of a response has been sent (R166); after RESET_PART's the part is to be reset (R183, log 14). Of a response that a
break has abandoned, that byte is the one STX was completing (R165, log 26). -/
def responseEnds (s : State) : State :=
  match s.link.transmitter with
  | .response _ true =>
    { s with link := { s.link with transmitter := .resting }, unit := { s.unit with resetDue := true } }
  | .response _ false => linkMovesOn { s with link := { s.link with transmitter := .resting } }
  | _ => byteCompleted s

/-! ## A break between hand-over and execution (R165) -/

/-- The request that a byte completes and the receiver hands over, the link being RECEIVING (R163). -/
def requestOfByte (s : State) (byte : Byte) : Option Frame :=
  if receives s && s.link.state == .receiving then
    match s.link.frame with
    | some (.keeping bytes) => frameOf (bytes ++ [byte])
    | _ => none
  else none

/-- The request that the end of a response hands over: the buffered frame, unless a reset is due (R166, R183). -/
def requestOfResponse (s : State) : Option Frame :=
  match s.link.transmitter with
  | .response _ false => s.link.buffered
  | _ => none

/-- A break is the next event: BREAK stands next in the queue. -/
def breakIsNext (s : State) : Bool := s.pending.head? == some .breakRecognised

/-- The command unit holds a request handed over to it, the link being BUSY (R161, R165). -/
def holdRequest (s : State) (f : Frame) : State :=
  { s with link := { s.link with state := .busy }, unit := { s.unit with request := some f } }

/-- A byte is received (R163). A request it hands over is executed in this step, or held when a break is the next event (R165,
log 11). -/
def byteComes (s : State) (byte : Byte) : State :=
  match requestOfByte s byte with
  | some f =>
    if breakIsNext s then holdRequest (quietAfter { s with link := { s.link with frame := none } } f) f
    else receiveByte s byte
  | none => receiveByte s byte

/-- The end of a response (R166). A buffered request it hands over is executed in this step, or held when a break is the next event
(R165, log 11). -/
def responseSentComes (s : State) : State :=
  match requestOfResponse s with
  | some f =>
    if breakIsNext s then holdRequest { s with link := { s.link with transmitter := .resting, buffered := none } } f
    else responseEnds s
  | none => responseEnds s

/-- A break and the execution of the request that the command unit holds. Taken first, the break leaves the request to execute with its
response not sent; taken second, it cancels the response or its deferral, and a response that has begun leaves a byte on STX (R165).
The free value says which is first (log 11). -/
def breakWithRequest (s : State) (f : Frame) : State :=
  if Config.breakTakenFirst s.freeIndex then executeFrame (breakFound { s with freeIndex := s.freeIndex + 1 }) f
  else breakFound (executeFrame { s with freeIndex := s.freeIndex + 1 } f)

/-- A break comes (R165). -/
def breakComes (s : State) : State :=
  match s.unit.request with
  | some f => breakWithRequest { s with unit := { s.unit with request := none } } f
  | none => breakFound s

end Sys2Proof.Machine
end

