-- ==== Sys2Proof/Machine/JobCommands.lean ====
section
/-! DEFINITION. The meanings of the starts of jobs and of the deferred FLUSH response, asked for as commands (log 1): each acts
where its rule's own event would. -/

namespace Sys2Proof.Machine

/-- The job choice is taken when it falls on a choice that a test picks out. -/
def chooseIf (s : State) (test : Choice → Bool) : State :=
  match nextJob s with
  | some c => if test c then startChoice s c else s
  | none => s

/-- COMMIT: a COMMIT job starts where the job choice takes the head of the commit queue (R46). -/
def execCommit (s : State) : Host.Outcome State Fault Refusal :=
  .next (chooseIf s fun c => match c with
    | .commit _ _ => true
    | _ => false)

/-- RESTORE: a RESTORE job starts where the job choice takes a pending RESTORE (R108). -/
def execRestore (s : State) : Host.Outcome State Fault Refusal :=
  .next (chooseIf s fun c => match c with
    | .restore _ _ => true
    | _ => false)

/-- CLOSE_JOB: a CLOSE job starts where the job choice takes a pending CLOSE (R112). -/
def execCloseJob (s : State) : Host.Outcome State Fault Refusal :=
  .next (chooseIf s fun c => match c with
    | .close _ _ => true
    | _ => false)

/-- The scan stands at its replay step for a journal classified OPEN, with nothing running: the REPLAY starts (R140, R143). -/
def replayDue (s : State) : State :=
  match s.frontEnd, s.job, s.op, s.scan with
  | .starting, none, none, .replay j =>
    match journalState s j with
    | .openFor sec => startReplay s j sec
    | _ => s
  | _, _, _, _ => s

/-- REPLAY (R143). -/
def execReplay (s : State) : Host.Outcome State Fault Refusal := .next (replayDue s)

/-- FLUSH_DEFERRED_RESPONSE: the deferred response is built when the flush condition is met (R177). -/
def execFlushDeferredResponse (s : State) : Host.Outcome State Fault Refusal := .next (flushTest s)

end Sys2Proof.Machine
end

