-- ==== Sys2Proof/Machine/Wire.lean ====
section
/-! DEFINITION. The bits of a byte on SRX and STX (R160): what a byte is on the wire, what the receiver reads from its samples, and
what the transmitter puts on STX. Each level lasts one bit time (log 13). -/

namespace Sys2Proof.Machine

/-- The level at which a line rests between bytes (R160). -/
def restLevel : Bool := true

/-- The ten levels of a byte on the wire, each for one bit time: a start bit at 0, the 8 data bits, least significant first, a stop
bit at 1 (R160). -/
def wireBits (b : Byte) : List Bool := false :: (List.finRange 8).map (fun k => b.getLsbD k.val) ++ [true]

/-- The byte that eight data samples spell, least significant first (R160). -/
def sampledByte (data : List Bool) : Byte :=
  data.foldr (fun bit rest => (rest <<< 1) ||| (if bit then 1#8 else 0#8)) 0#8

/-- What the receiver makes of the ten samples of a byte, each taken at the centre of its bit: the byte when its stop bit reads 1; none
when the stop bit reads 0, which R164 and R165 judge (R160, R163). -/
def receivedByte (samples : List Bool) : Option Byte :=
  match samples with
  | [false, b0, b1, b2, b3, b4, b5, b6, b7, true] => some (sampledByte [b0, b1, b2, b3, b4, b5, b6, b7])
  | _ => none

/-- The bytes that go out on STX one after another: the byte of an abandoned response that is being completed, and then what the
transmitter sends, with no gap inside a response (R162, R165, R167, log 26). -/
def bytesOnStx (l : Link) : List Byte :=
  l.completing.toList ++
    match l.transmitter with
    | .resting => []
    | .syncAnswer _ => [0x55#8]
    | .response bytes _ => bytes

/-- The levels the transmitter puts on STX for what it sends, after which the line rests (R160). -/
def stxLevels (s : State) : List Bool := (bytesOnStx s.link).flatMap wireBits

/-- The bit time: the measured time divided by 8 (R162). DESIGN CHOICE (log 13): R162 names no resolution, and this view gives whole
nanoseconds, the fraction dropped; no operation uses it. -/
def bitTime (s : State) : Option Nat := s.link.bitTime.map fun t => t / 8

/-- The places in a run of levels where the line falls, the line having rested before (R162). -/
def fallsOf (levels : List Bool) : List Nat :=
  (List.range levels.length).filter fun k => (k == 0 || (levels[k - 1]?).getD restLevel) && !(levels[k]?).getD restLevel

end Sys2Proof.Machine
end

