-- ==== Sys2Proof/Machine/LinkCommands.lean ====
section
/-! DEFINITION. The meanings of the events on the two wires of the service link. -/

namespace Sys2Proof.Machine

/-- SYNC_CANDIDATE_BEGIN (R162). -/
def execSyncCandidateBegin (s : State) : Host.Outcome State Fault Refusal := .next (beginCandidate s)

/-- SYNC_BYTE (R162). -/
def execSyncByte (measured : Nat) (byte : Byte) (stop : Bool) (s : State) : Host.Outcome State Fault Refusal :=
  .next (judgeCandidate s measured byte stop)

/-- SYNC_CANDIDATE_TIMEOUT (R162). -/
def execSyncCandidateTimeout (s : State) : Host.Outcome State Fault Refusal := .next (abandonCandidate s)

/-- SYNC_ANSWER_SENT (R162). -/
def execSyncAnswerSent (s : State) : Host.Outcome State Fault Refusal := .next (syncAnswerEnds s)

/-- BYTE_RECEIVED (R163). -/
def execByteReceived (byte : Byte) (s : State) : Host.Outcome State Fault Refusal := .next (byteComes s byte)

/-- GAP (R163). -/
def execGap (s : State) : Host.Outcome State Fault Refusal := .next (gapFound s)

/-- FRAMING_ERROR (R164). -/
def execFramingError (s : State) : Host.Outcome State Fault Refusal := .next (framingErrorFound s)

/-- QUIET_WAIT_END (R164). -/
def execQuietWaitEnd (s : State) : Host.Outcome State Fault Refusal := .next (quietEnds s)

/-- BREAK (R165). -/
def execBreakRecognised (s : State) : Host.Outcome State Fault Refusal := .next (breakComes s)

/-- OVERRUN: the first start bit of a frame (R161, R166). -/
def execOverrun (s : State) : Host.Outcome State Fault Refusal := .next (startBit s)

/-- RESPONSE_SENT (R166). -/
def execResponseSent (s : State) : Host.Outcome State Fault Refusal := .next (responseSentComes s)

/-- LENGTH_FAULT_FRAME: the three bytes of a frame whose LEN is above 12 come (R163, R167). -/
def execLengthFaultFrame (cmd tag len : Byte) (s : State) : Host.Outcome State Fault Refusal :=
  .next (receiveBytes s [cmd, tag, len])

/-- BAD_COMMAND: a whole frame comes whose CMD is no known code (R167). -/
def execBadCommand (cmd tag : Byte) (args : List Byte) (s : State) : Host.Outcome State Fault Refusal :=
  .next (receiveBytes s (requestBytes cmd tag args))

end Sys2Proof.Machine
end

