-- ==== Sys2Proof/Machine/PortCommands.lean ====
section
/-! DEFINITION. The meanings of the commands of the system port. -/

namespace Sys2Proof.Machine

/-- PORT_TRANSACTION: a transaction is presented at the bus; the port takes it, or takes the one that has waited longest, when it
is IDLE (R127, R130). -/
def execPortTransaction (t : Transaction) (s : State) : Host.Outcome State Fault Refusal :=
  .next (takeNextTransaction { s with bus := s.bus ++ [t] })

/-- HOLD_TIMER_EXPIRY: the held transaction is refused with the reason of its hold's cause (R131). -/
def execHoldTimerExpiry (s : State) : Host.Outcome State Fault Refusal := .next (holdExpires s)

/-- START_HOLD_RESUME: a transaction held for start-up takes its remaining checks (R132). -/
def execStartHoldResume (s : State) : Host.Outcome State Fault Refusal := .next (chooseJob (startHoldResume s))

/-- HELD_WRITE_RETAKEN: a write held for a line is taken again (R29). -/
def execHeldWriteRetaken (s : State) : Host.Outcome State Fault Refusal := .next (chooseJob (retakeHeldWrite s))

/-- HELD_READ_EVALUATED: a read held for a bank is evaluated (R91). -/
def execHeldReadEvaluated (s : State) : Host.Outcome State Fault Refusal := .next (reevaluateHeldRead s)

/-- THROUGH_ANSWER: a THROUGH write in COMMIT_WAIT is answered by the outcome of its line (R134). -/
def execThroughAnswer (s : State) : Host.Outcome State Fault Refusal := .next (answerThrough s)

/-- What the block does on an empty queue: an IDLE port takes a transaction that waits at the bus, and otherwise the block idles
(R137, logs 7 and 8). -/
def idleStep (s : State) : State := takeNextTransaction s

end Sys2Proof.Machine
end

