-- ==== Sys2Proof/Machine/ResetCommands.lean ====
section
/-! DEFINITION. The meanings of the commands of reset, release and the PWARN input. -/

namespace Sys2Proof.Machine

/-- POWER_ON: a power-on reset, in any state, also while RESETn is low (R139). -/
def execPowerOn (left : PulseResidue) (s : State) : Host.Outcome State Fault Refusal :=
  .next (partReset s .powerOn left)

/-- RESETn falls while the supply is up; with RESETn already low no fall occurs (R139). -/
def resetPinFalls (s : State) (left : PulseResidue) : State :=
  if s.resetnLow then s else partReset { s with resetnLow := true } .resetPin left

/-- RESET_PIN: a fall of RESETn (R139). -/
def execResetPin (left : PulseResidue) (s : State) : Host.Outcome State Fault Refusal :=
  .next (resetPinFalls s left)

/-- RESET_RELEASE: front-end control enters STARTING and the scan begins (R138, R140). -/
def execResetRelease (s : State) : Host.Outcome State Fault Refusal := .next (releaseReset s)

/-- The reset of RESET_PART, once it is due (R139, R183, log 14). -/
def takeDueReset (s : State) (left : PulseResidue) : State :=
  if s.unit.resetDue then partReset s .linkCommand left else s

/-- LINK_COMMAND_RESET: the reset of RESET_PART (R183). -/
def execLinkCommandReset (left : PulseResidue) (s : State) : Host.Outcome State Fault Refusal :=
  .next (takeDueReset s left)

/-- PWARN_ASSERTED (R145, R147). -/
def execPwarnAsserted (s : State) : Host.Outcome State Fault Refusal := .next (pwarnRises s)

/-- PWARN_DEASSERTED (R145, R149). -/
def execPwarnDeasserted (s : State) : Host.Outcome State Fault Refusal := .next (pwarnFalls s)

/-- END_OF_STARTUP: the scan having ended, STARTING ends (R145). -/
def execEndOfStartup (s : State) : Host.Outcome State Fault Refusal :=
  .next (if s.frontEnd = .starting ∧ s.scan = .ended then endStartup s else s)

/-- DRAINED: the drain test (R148). -/
def execDrained (s : State) : Host.Outcome State Fault Refusal := .next (drainTest s)

end Sys2Proof.Machine
end

