-- ==== Sys2Proof/Machine/ServiceCommands.lean ====
section
/-! DEFINITION. The meanings of the fourteen service commands: the bytes of the request frame come on the link, and the frame is
handed over and executed when its last byte has come (R163, R166, R167, R172, log 11). -/

namespace Sys2Proof.Machine

/-- IDENT (R173). -/
def execIdent (tag : Byte) (s : State) : Host.Outcome State Fault Refusal :=
  .next (receiveBytes s (requestBytes 0x01#8 tag []))

/-- STATUS (R174). -/
def execStatus (tag : Byte) (s : State) : Host.Outcome State Fault Refusal :=
  .next (receiveBytes s (requestBytes 0x02#8 tag []))

/-- GET_REGION (R175). -/
def execGetRegion (tag n : Byte) (s : State) : Host.Outcome State Fault Refusal :=
  .next (receiveBytes s (requestBytes 0x10#8 tag [n]))

/-- SET_REGION (R117, R175). -/
def execSetRegion (tag n valid : Byte) (base limit : BitVec 16) (kind delay : Byte) (s : State) :
    Host.Outcome State Fault Refusal :=
  .next (receiveBytes s (requestBytes 0x11#8 tag
    [n, valid, lowByte base, highByte base, lowByte limit, highByte limit, kind, delay]))

/-- GET_SETTINGS (R176). -/
def execGetSettings (tag : Byte) (s : State) : Host.Outcome State Fault Refusal :=
  .next (receiveBytes s (requestBytes 0x12#8 tag []))

/-- SET_SETTING (R176). -/
def execSetSetting (tag field value : Byte) (s : State) : Host.Outcome State Fault Refusal :=
  .next (receiveBytes s (requestBytes 0x13#8 tag [field, value]))

/-- FLUSH (R177). -/
def execFlush (tag wait : Byte) (s : State) : Host.Outcome State Fault Refusal :=
  .next (receiveBytes s (requestBytes 0x20#8 tag [wait]))

/-- READ_FAULT (R178). -/
def execReadFault (tag : Byte) (s : State) : Host.Outcome State Fault Refusal :=
  .next (receiveBytes s (requestBytes 0x30#8 tag []))

/-- ACK_FAULT (R155, R179). -/
def execAckFault (tag : Byte) (seq : BitVec 16) (clear : Byte) (s : State) : Host.Outcome State Fault Refusal :=
  .next (receiveBytes s (requestBytes 0x31#8 tag [lowByte seq, highByte seq, clear]))

/-- RETRY_PAGE (R101, R180). -/
def execRetryPage (tag : Byte) (page : BitVec 16) (s : State) : Host.Outcome State Fault Refusal :=
  .next (receiveBytes s (requestBytes 0x40#8 tag [lowByte page, highByte page]))

/-- DISCARD_PAGE (R102, R181). -/
def execDiscardPage (tag : Byte) (page : BitVec 16) (s : State) : Host.Outcome State Fault Refusal :=
  .next (receiveBytes s (requestBytes 0x41#8 tag [lowByte page, highByte page]))

/-- RESTORE_SECTOR (R107, R182). -/
def execRestoreSector (tag bank : Byte) (s : State) : Host.Outcome State Fault Refusal :=
  .next (receiveBytes s (requestBytes 0x50#8 tag [bank]))

/-- DROP_JOURNAL (R107, R182). -/
def execDropJournal (tag bank : Byte) (s : State) : Host.Outcome State Fault Refusal :=
  .next (receiveBytes s (requestBytes 0x51#8 tag [bank]))

/-- RESET_PART (R183). -/
def execResetPart (tag : Byte) (s : State) : Host.Outcome State Fault Refusal :=
  .next (receiveBytes s (requestBytes 0x7F#8 tag []))

end Sys2Proof.Machine
end

