-- ==== Sys2Proof/Machine/TimerCommands.lean ====
section
/-! DEFINITION. The meanings of the expiries of the age timer and the phase timer, and of the completions of cell operations. -/

namespace Sys2Proof.Machine

/-- The age timer expires while RUNNING: the OPEN lines are aged and sealed, the timer is reloaded, and a seal brings the job
choice (R32, R33, R43). -/
def ageTimerExpires (s : State) : State :=
  match s.ageTimer with
  | some _ => chooseJob (loadAgeTimer (ageLines s))
  | none => s

/-- AGE_TIMER_EXPIRY (R33). -/
def execAgeTimerExpiry (s : State) : Host.Outcome State Fault Refusal := .next (ageTimerExpires s)

/-- SETUP_EXPIRY (R10, R11). -/
def execSetupExpiry (s : State) : Host.Outcome State Fault Refusal := .next (setupExpires s)

/-- PULSE_EXPIRY (R8 to R10). -/
def execPulseExpiry (left : PulseResidue) (s : State) : Host.Outcome State Fault Refusal := .next (pulseExpires s left)

/-- HOLD_EXPIRY (R10, R51, R56). -/
def execHoldExpiry (s : State) : Host.Outcome State Fault Refusal := .next (holdExpiresInPhase s)

/-- READ_PAGE_COMPLETE (R6). -/
def execReadPageComplete (s : State) : Host.Outcome State Fault Refusal := .next (readPageCompletes s)

/-- BLANK_CHECK_COMPLETE (R7). -/
def execBlankCheckComplete (s : State) : Host.Outcome State Fault Refusal := .next (blankCheckCompletes s)

end Sys2Proof.Machine
end

