-- ==== Sys2Proof/Machine/Dispatch.lean ====
section
/-! DEFINITION. The meaning of each command: one arm per constructor of `Instr`. -/

namespace Sys2Proof.Machine

/-- The effect of a command on everything but the queue. -/
def exec (i : Instr) (s : State) : Host.Outcome State Fault Refusal :=
  match i with
  | .powerOn left => Sys2Proof.Machine.execPowerOn left s
  | .resetPin left => Sys2Proof.Machine.execResetPin left s
  | .resetRelease => Sys2Proof.Machine.execResetRelease s
  | .linkCommandReset left => Sys2Proof.Machine.execLinkCommandReset left s
  | .pwarnAsserted => Sys2Proof.Machine.execPwarnAsserted s
  | .pwarnDeasserted => Sys2Proof.Machine.execPwarnDeasserted s
  | .portTransaction t => Sys2Proof.Machine.execPortTransaction t s
  | .holdTimerExpiry => Sys2Proof.Machine.execHoldTimerExpiry s
  | .startHoldResume => Sys2Proof.Machine.execStartHoldResume s
  | .heldWriteRetaken => Sys2Proof.Machine.execHeldWriteRetaken s
  | .heldReadEvaluated => Sys2Proof.Machine.execHeldReadEvaluated s
  | .throughAnswer => Sys2Proof.Machine.execThroughAnswer s
  | .ageTimerExpiry => Sys2Proof.Machine.execAgeTimerExpiry s
  | .setupExpiry => Sys2Proof.Machine.execSetupExpiry s
  | .pulseExpiry left => Sys2Proof.Machine.execPulseExpiry left s
  | .holdExpiry => Sys2Proof.Machine.execHoldExpiry s
  | .readPageComplete => Sys2Proof.Machine.execReadPageComplete s
  | .blankCheckComplete => Sys2Proof.Machine.execBlankCheckComplete s
  | .commit => Sys2Proof.Machine.execCommit s
  | .restore => Sys2Proof.Machine.execRestore s
  | .closeJob => Sys2Proof.Machine.execCloseJob s
  | .replay => Sys2Proof.Machine.execReplay s
  | .endOfStartup => Sys2Proof.Machine.execEndOfStartup s
  | .drained => Sys2Proof.Machine.execDrained s
  | .flushDeferredResponse => Sys2Proof.Machine.execFlushDeferredResponse s
  | .syncByte measured byte stop => Sys2Proof.Machine.execSyncByte measured byte stop s
  | .syncCandidateTimeout => Sys2Proof.Machine.execSyncCandidateTimeout s
  | .gap => Sys2Proof.Machine.execGap s
  | .framingError => Sys2Proof.Machine.execFramingError s
  | .quietWaitEnd => Sys2Proof.Machine.execQuietWaitEnd s
  | .breakRecognised => Sys2Proof.Machine.execBreakRecognised s
  | .overrun => Sys2Proof.Machine.execOverrun s
  | .lengthFaultFrame cmd tag len => Sys2Proof.Machine.execLengthFaultFrame cmd tag len s
  | .badCommand cmd tag args => Sys2Proof.Machine.execBadCommand cmd tag args s
  | .responseSent => Sys2Proof.Machine.execResponseSent s
  | .ident tag => Sys2Proof.Machine.execIdent tag s
  | .status tag => Sys2Proof.Machine.execStatus tag s
  | .getRegion tag n => Sys2Proof.Machine.execGetRegion tag n s
  | .setRegion tag n valid base limit kind delay => Sys2Proof.Machine.execSetRegion tag n valid base limit kind delay s
  | .getSettings tag => Sys2Proof.Machine.execGetSettings tag s
  | .setSetting tag field value => Sys2Proof.Machine.execSetSetting tag field value s
  | .flush tag wait => Sys2Proof.Machine.execFlush tag wait s
  | .readFault tag => Sys2Proof.Machine.execReadFault tag s
  | .ackFault tag seq clear => Sys2Proof.Machine.execAckFault tag seq clear s
  | .retryPage tag page => Sys2Proof.Machine.execRetryPage tag page s
  | .discardPage tag page => Sys2Proof.Machine.execDiscardPage tag page s
  | .restoreSector tag bank => Sys2Proof.Machine.execRestoreSector tag bank s
  | .dropJournal tag bank => Sys2Proof.Machine.execDropJournal tag bank s
  | .resetPart tag => Sys2Proof.Machine.execResetPart tag s
  | .byteReceived byte => Sys2Proof.Machine.execByteReceived byte s
  | .syncCandidateBegin => Sys2Proof.Machine.execSyncCandidateBegin s
  | .syncAnswerSent => Sys2Proof.Machine.execSyncAnswerSent s

end Sys2Proof.Machine
end

