-- ==== Sys2Proof/Safety.lean ====
section
/-! DEFINITION. What the block keeps true at every step: the laws of the cell array, the fault log, the tables, the lines, the job,
the front-end state and the link. Each is a property of one state. -/

namespace Sys2Proof.Machine

/-- The cell array keeps its canonical form. -/
def State.cellsCanonical (s : State) : Prop := Memory.wf s.cells

/-- The law of the fault log (R152): at most 16 entries, the dropped count at most 255, and sequence numbers that rise by one and
end one below the next sequence number, modulo 65536. -/
def State.logLaw (s : State) : Prop :=
  s.log.entries.length ≤ 16 ∧ s.log.dropped ≤ 255 ∧
  ∀ k : Fin 16, ∀ e, s.log.entries[k.val]? = some e →
    e.seq + BitVec.ofNat 16 (s.log.entries.length - k.val) = s.log.nextSeq

/-- Every setting lies in its range (R176). -/
def Settings.inRange (c : Settings) : Prop :=
  (1 ≤ c.tick ∧ c.tick ≤ 255) ∧ (1 ≤ c.delay ∧ c.delay ≤ 15) ∧ (5 ≤ c.pgmPulse ∧ c.pgmPulse ≤ 80) ∧
  (1 ≤ c.pgmMax ∧ c.pgmMax ≤ 8) ∧ (1 ≤ c.ersPulse ∧ c.ersPulse ≤ 16) ∧ (1 ≤ c.ersMax ∧ c.ersMax ≤ 15) ∧
  (1 ≤ c.holdLimit ∧ c.holdLimit ≤ 255)

/-- A region entry's fields lie in their ranges (R116). -/
def Region.inRange (r : Region) : Prop := r.base ≤ r.limit ∧ ∀ d, r.delay = some d → 1 ≤ d ∧ d ≤ 15

/-- The law of the settings and the region table (R116, R176). -/
def State.tablesLaw (s : State) : Prop := s.settings.inRange ∧ ∀ n : Fin 8, (s.regions[n]).inRange

/-- The law of the lines and their two lists (R18 to R20): the age list holds every line that is not FREE, each once; the commit
queue holds exactly the SEALED lines, each once; a FREE line has its fields cleared, any other has a page. -/
def State.linesLaw (s : State) : Prop :=
  s.ageList.Nodup ∧ s.commitQueue.Nodup ∧
  ∀ i : LineNo,
    (i ∈ s.ageList ↔ s.lines[i].state ≠ .free) ∧ (i ∈ s.commitQueue ↔ s.lines[i].state = .sealed) ∧
    (s.lines[i].state = .free → s.lines[i] = Line.cleared) ∧
    (s.lines[i].state ≠ .free → s.lines[i].page.isSome = true)

/-- An OPEN line's age is at most 14 (R18, R33). -/
def State.agesLaw (s : State) : Prop := ∀ i : LineNo, s.lines[i].state = .open → s.lines[i].age ≤ 14

/-- The stages a job of each kind may rest in (R41, R63, R108, R112, R143). -/
def Stage.belongsTo : Stage → JobKind → Bool
  | .preRead, k | .program, k => k == .commit
  | .journalCheck, k | .load _, k | .copy _, k | .header, k | .copyDone, k | .scrub, k => k == .rewrite
  | .loadCopy _, k => k == .restore || k == .replay
  | .targetErase, k | .targetProgram _, k => k == .rewrite || k == .restore || k == .replay
  | .close, k | .closeErase, k => k != .commit

/-- A COMMIT, and a rewrite up to RETIRE, hold lines COMMITTING (R42, R79). -/
def Job.holdsLines (j : Job) : Bool :=
  (j.kind == .commit || j.kind == .rewrite) && j.stage != .close && j.stage != .closeErase

/-- The law of the job and its lines (R42): the running job rests in a stage of its kind; every COMMITTING line is its head or a
member of it and lies in its sector; when no job runs no line is COMMITTING. -/
def State.jobLaw (s : State) : Prop :=
  (∀ j ∈ s.job, j.stage.belongsTo j.kind = true) ∧
  ∀ i : LineNo, s.lines[i].state = .committing →
    ∃ j ∈ s.job, j.holdsLines = true ∧ i ∈ jobLines j ∧ ∀ p ∈ s.lines[i].page, sectorOf p = j.sector

/-- The law of the pages (R22, R98): a page has at most one OPEN line; a page with a FAILED line has no line that is OPEN, SEALED or
COMMITTING; while a write is held for a line, its page has no OPEN line (R29); an OPEN line is the newest of its page (R19, R22). -/
def State.pagesLaw (s : State) : Prop :=
  (∀ i k : LineNo, s.lines[i].state = .open → s.lines[k].state = .open → s.lines[i].page = s.lines[k].page → i = k) ∧
  (∀ i k : LineNo, s.lines[i].state = .failed → s.lines[k].state ≠ .free → s.lines[i].page = s.lines[k].page →
    s.lines[k].state = .failed) ∧
  (∀ t k w, s.port = .held t k .line w →
    ∀ i : LineNo, s.lines[i].state = .open → s.lines[i].page ≠ some (transactionPage t)) ∧
  (∀ (i : LineNo) (older newer : List LineNo), s.ageList = older ++ i :: newer → s.lines[i].state = .open →
    ∀ k ∈ newer, s.lines[k].page ≠ s.lines[i].page)

/-- The law of the wait (R26, R134): the line a THROUGH write waits on is SEALED or COMMITTING. -/
def State.waitLaw (s : State) : Prop :=
  ∀ t k i, s.port = .commitWait t k i → s.lines[i].state = .sealed ∨ s.lines[i].state = .committing

/-- The law of the sector records (R3, R104): a quarantine record names a sector of its own bank, and a journal OPEN, or being
classified, names a sector of the other bank. -/
def State.recordsLaw (s : State) : Prop :=
  (∀ b sec, (s.quarantine.get b).sector = some sec → bankOf sec = b) ∧
  (∀ j sec, journalState s j = .openFor sec → journalFor sec = j) ∧
  (∀ j sec check k sum, s.scan = .copyRead j sec check k sum → journalFor sec = j)

/-- The port holds a write for a line. -/
def State.holdsForLine (s : State) : Bool :=
  match s.port with
  | .held _ _ .line _ => true
  | _ => false

/-- The port is IDLE or holds a transaction for start-up. -/
def State.portAwaitsStart (s : State) : Bool :=
  match s.port with
  | .idle => true
  | .held _ _ .start _ => true
  | _ => false

/-- No quarantine record has a pending recovery job. -/
abbrev State.nothingPending (s : State) : Prop :=
  s.quarantine.zero.pending = .none ∧ s.quarantine.one.pending = .none

/-- The law of the front-end state (R40, R45, R148): in reset and in STARTING every line is FREE, no recovery job is pending and the
port is IDLE or holds for start-up; in DRAINING and DRAINED no line is OPEN and no write is held for a line; in DRAINED the
queue is empty, no job runs and no recovery job is pending. -/
def State.frontEndLaw (s : State) : Prop :=
  (s.frontEnd = .inReset ∨ s.frontEnd = .starting →
    (∀ i : LineNo, s.lines[i].state = .free) ∧ s.nothingPending ∧ s.portAwaitsStart = true) ∧
  (s.frontEnd = .draining ∨ s.frontEnd = .drained →
    (∀ i : LineNo, s.lines[i].state ≠ .open) ∧ s.holdsForLine = false) ∧
  (s.frontEnd = .drained → s.commitQueue = [] ∧ s.job = none ∧ s.nothingPending)

/-- No response is being sent and none waits behind the sync answer. -/
def Transmitter.quiet : Transmitter → Bool
  | .resting => true
  | .syncAnswer none => true
  | _ => false

/-- The sync answer is being sent, or waits for a byte on STX to be completed. -/
def Transmitter.answersSync : Transmitter → Bool
  | .syncAnswer _ => true
  | _ => false

/-- The law of the link (R161): SYNC_WAIT is the state without a bit time; a frame in progress needs a bit time and the quiet wait
off; a buffered frame, a response and a deferral belong to BUSY; in IDLE no frame is in progress, in RECEIVING one is; BUSY has a
request to execute, a response, a deferral or RESET_PART's reset to wait for; a request is held only while a break is the next
event (log 11); and STX completes a byte of an abandoned response only in SYNC_WAIT or before a sync answer (log 26). -/
def State.linkLaw (s : State) : Prop :=
  (s.link.state = .syncWait ↔ s.link.bitTime = none) ∧
  (s.link.frame.isSome = true → s.link.quietWait = false ∧ (s.link.state = .receiving ∨ s.link.state = .busy)) ∧
  (s.link.buffered.isSome = true → s.link.state = .busy) ∧
  (s.link.transmitter.quiet = false → s.link.state = .busy) ∧
  (s.unit.deferred.isSome = true → s.link.state = .busy ∧ s.link.transmitter.quiet = true) ∧
  (s.link.state = .receiving → s.link.frame.isSome = true) ∧
  (s.link.state = .busy →
    s.link.transmitter.quiet = false ∨ s.unit.deferred.isSome = true ∨ s.unit.resetDue = true ∨
      s.unit.request.isSome = true) ∧
  (s.unit.request.isSome = true →
    s.link.state = .busy ∧ s.link.transmitter.quiet = true ∧ s.unit.deferred = none ∧
      s.pending.head? = some .breakRecognised) ∧
  (s.link.completing.isSome = true → s.link.state = .syncWait ∨ s.link.transmitter.answersSync = true)

/-- The law of the job choice (R43, R104): once STARTING has ended, a job runs, or the commit queue is empty and no recovery job is
pending; and a pending recovery job stands in a record that names a sector. -/
def State.choiceLaw (s : State) : Prop :=
  (s.frontEnd = .ready ∨ s.frontEnd = .draining ∨ s.frontEnd = .drained →
    s.job.isSome = true ∨ (s.commitQueue = [] ∧ s.nothingPending)) ∧
  ∀ b, (s.quarantine.get b).pending ≠ .none → (s.quarantine.get b).sector.isSome = true

/-! ## What the statements speak of -/

/-- Out of reset, the port IDLE and nothing waiting at the bus. -/
def State.portReady (s : State) : Prop := s.port = .idle ∧ s.bus = [] ∧ s.frontEnd ≠ .inReset

/-- The job choice finds nothing to start: a job runs, or the queue is empty and no recovery job is pending (R43). -/
def State.nothingToStart (s : State) : Prop := s.job.isSome = true ∨ (s.commitQueue = [] ∧ s.nothingPending)

/-- READY, DRAINING or DRAINED: STARTING has ended. -/
def State.started (s : State) : Prop := s.frontEnd = .ready ∨ s.frontEnd = .draining ∨ s.frontEnd = .drained

/-- Out of reset, the link IDLE with nothing in progress, nothing being sent and no response deferred. -/
def State.linkReady (s : State) : Prop :=
  s.frontEnd ≠ .inReset ∧ s.link.state = .idle ∧ s.link.frame = none ∧ s.link.buffered = none ∧
  s.link.quietWait = false ∧ s.link.transmitter = .resting ∧ s.unit.deferred = none

/-- The receiver takes bytes: out of reset and of SYNC_WAIT, the quiet wait off (R163). -/
def State.linkReceives (s : State) : Prop :=
  s.frontEnd ≠ .inReset ∧ s.link.state ≠ .syncWait ∧ s.link.quietWait = false

/-- `s` with a request handed over to the command unit: executed in this step, or held by it where BREAK stands next in the queue (R163,
R165, R166, log 11). -/
def State.handedOver (s : State) (f : Frame) : State :=
  if s.pending.head? = some .breakRecognised then { s with unit := { s.unit with request := some f } }
  else executeFrame s f

/-- `s` with the link BUSY sending the response of a status code, a TAG and data: the FLAGS byte is that of `s`, OVERRUN and FRAMING are
cleared, and CHECK ends the frame (R167, R168, section 11.6). -/
def State.answering (s : State) (code tag : Byte) (data : List Byte) (resets : Bool) : State :=
  let body := [code, tag, flagsByte s, BitVec.ofNat 8 data.length] ++ data
  { s with link := { s.link with
      state := .busy, overrunFlag := false, framingFlag := false,
      transmitter := .response (body ++ [checkByteFor body]) resets } }

/-- A position is covered by a transaction (R127). -/
def isCovered (t : Transaction) (x : Fin 64) : Bool :=
  decide (t.address.toNat % 64 ≤ x.val) && decide (x.val < t.address.toNat % 64 + t.size)

/-- The staged bytes after a write laid over staged bytes: at a covered position the byte of its lane (R23, R127). -/
def writtenOver (st : Staged) (t : Transaction) : Staged :=
  Vector.ofFn fun x => if isCovered t x then some ((t.data >>> (8 * (x.val % 4))).setWidth 8) else st[x]

/-- The line a write opens, in a state and with a through field (R24, R26). -/
def openedFor (t : Transaction) (st : LineState) (through : Bool) : Line :=
  { state := st, page := some (transactionPage t), staged := writtenOver (Vector.replicate 64 none) t, age := 0,
    through := through }

/-- The answer to a read: for each lane used, in address order, its byte by the overlay order (R84, R128). -/
def State.readAnswer (s : State) (t : Transaction) : PortAnswer :=
  .okay ((positionsOf t).map fun x => (x.val % 4, readByte s (transactionPage t) x))

/-- Every position of a page is staged (R25). -/
abbrev fillsPage (st : Staged) : Prop := ∀ x : Fin 64, st[x].isSome = true

/-- The age an expiry brings a line to reaches its commit delay (R33). -/
def State.ageReached (s : State) (i : LineNo) : Bool :=
  match s.lines[i].page with
  | some p => decide (delayOf s p ≤ s.lines[i].age + 1)
  | none => false

/-- A line failed by a job or a cascade: state and through field change, the rest is kept (R38). -/
def Line.failedOf (l : Line) : Line := { l with state := .failed, through := false }

/-- The lines, OPEN or SEALED, of a page: those a failure cascade fails (R97). -/
def State.cascaded (s : State) (p : PageNo) (i : LineNo) : Bool :=
  (s.lines[i].state == .open || s.lines[i].state == .sealed) && s.lines[i].page == some p

/-- The lines, OPEN or SEALED, of a sector: those an entry cascade fails (R105). -/
def State.cascadedIn (s : State) (sec : SectorNo) (i : LineNo) : Bool :=
  (s.lines[i].state == .open || s.lines[i].state == .sealed) && s.lines[i].page.any fun p => sectorOf p == sec

/-- The lines of a job that are COMMITTING: those its end or its RETIRE hands back (R37, R38). -/
def State.heldBy (s : State) (j : Job) (k : LineNo) : Bool :=
  s.lines[k].state == .committing && (j.head == some k || j.members.contains k)

/-- The lines that a failing end of job `j` makes FAILED: its own, and the OPEN and SEALED lines of their pages (R38, R97). -/
def State.failedWith (s : State) (j : Job) (k : LineNo) : Bool :=
  s.heldBy j k || (List.finRange 8).any fun i =>
    s.heldBy j i && s.lines[i].page.any fun p => s.cascaded p k

/-- `u` has the lines that a test picks out FAILED, out of the queue, and every other line as in `s` (R38). -/
def State.linesFailed (s u : State) (failed : LineNo → Bool) : Prop :=
  (∀ k : LineNo, u.lines[k] = if failed k = true then (s.lines[k]).failedOf else s.lines[k]) ∧
  (s.commitQueue.Nodup → u.commitQueue = s.commitQueue.filter fun k => !failed k)

/-- `u` has the lines that job `j` held FREE and out of the age list, and every other line as in `s` (R37). -/
def State.linesRetired (s u : State) (j : Job) : Prop :=
  (∀ k : LineNo, u.lines[k] = if s.heldBy j k = true then Line.cleared else s.lines[k]) ∧
  (s.linesLaw → u.ageList = s.ageList.filter (fun k => !s.heldBy j k) ∧ u.commitQueue = s.commitQueue)

/-- The port after the lines that a test picks out have retired or failed: a THROUGH write that waits on one is answered (R134). -/
def State.portAfter (s : State) (ended : LineNo → Bool) : PortState :=
  match s.port with
  | .commitWait t k i => if ended i then .idle else .commitWait t k i
  | p => p

/-- The answer on the bus after it (R134). -/
def State.answerAfter (s : State) (ended : LineNo → Bool) (a : PortAnswer) : Option PortAnswer :=
  match s.port with
  | .commitWait _ _ i => if ended i then some a else s.portAnswer
  | _ => s.portAnswer

/-- Page `m` of a sector image is the next one to program from page `k` on: the first that is not FFh throughout (R73, R77). -/
def isNextPage (img : Image) (k : Nat) (m : Fin 16) : Prop :=
  k ≤ m.val ∧ (∃ x : Fin 64, img[m][x] ≠ 0xFF#8) ∧
  ∀ n : Fin 16, k ≤ n.val → n < m → ∀ x : Fin 64, img[n][x] = 0xFF#8

/-- Every page of a sector image from page `k` on is FFh throughout: none is left to program (R73, R77). -/
def noPageLeft (img : Image) (k : Nat) : Prop := ∀ n : Fin 16, k ≤ n.val → ∀ x : Fin 64, img[n][x] = 0xFF#8

/-- The header image of a rewrite of a sector with a copy check: target and check low byte first, every other byte FFh (R66, R171). -/
def isHeaderImage (h : Page) (sec : SectorNo) (check : BitVec 16) : Prop :=
  h[0] = BitVec.ofNat 8 sec.val ∧ h[1] = 0#8 ∧ h[3] ++ h[2] = check ∧ ∀ x : Fin 64, 4 ≤ x.val → h[x] = 0xFF#8

/-- A program loop that has applied `n` pulses to a page ends in failure at its verify: DISTURBED when a bit reads 0 that should read 1,
else EXHAUSTED when bits are left to clear and PGM_MAX pulses have gone (R51, R53). -/
def State.loopFails (s : State) (cp : CellPage) (image : Page) (n : Nat) (cause : LoopFailure) : Prop :=
  (cause = .disturbed ∧ ∃ x : Fin 64, image[x] &&& ~~~(readCells s.cells cp)[x] ≠ 0#8) ∨
  (cause = .exhausted ∧ readCells s.cells cp ≠ image ∧
    (∀ x : Fin 64, image[x] &&& ~~~(readCells s.cells cp)[x] = 0#8) ∧ s.settings.pgmMax ≤ n)

/-- The sector is BLANK (R7). -/
def State.readsBlank (s : State) (g : Target) : Prop := ∀ o, o < g.size → Memory.read s.cells (g.base + o) = 0xFF#8

/-- An erase loop that has applied `n` pulses ends in FAILED: the sector is not BLANK and ERS_MAX pulses have gone (R56). -/
def State.eraseFails (s : State) (g : Target) (n : Nat) : Prop := ¬ s.readsBlank g ∧ s.settings.ersMax ≤ n

/-- `u` is `s` at the end of a rewrite that failed with its target untouched, before the record goes: its lines and those of the cascade
FAILED, a THROUGH write that waits on one answered COMMIT_FAIL, and a JOURNAL_FAIL entry that counts them without the head (R68,
R75). -/
def State.rewriteFailed (s u : State) (j : Job) (step : FaultStep) (journals : PerBank JournalState) : Prop :=
  u = { s with
    op := none, lines := u.lines, commitQueue := u.commitQueue, journals := journals,
    port := s.portAfter (s.failedWith j), portAnswer := s.answerAfter (s.failedWith j) (.error .commitFail),
    log := s.log.append (.journalFail (journalFor j.sector) step j.sector
      (j.members.length + ((List.finRange 8).filter fun k => s.failedWith j k && !s.heldBy j k).length)) } ∧
  s.linesFailed u (s.failedWith j)

/-- `u` is `s` after the RETIRE of a rewrite and the start of its CLOSE: its lines retired, a THROUGH write that waits on one answered
OKAY, a held write taken again, and the first pulse of the closed image over the marked one (R79, R80). -/
def State.retiredAndClosing (s u : State) (j : Job) (marked : Page) : Prop :=
  ∃ v : State,
    v = { s with
      op := none, lines := v.lines, ageList := v.ageList, commitQueue := v.commitQueue,
      port := s.portAfter (s.heldBy j), portAnswer := s.answerAfter (s.heldBy j) (.okay []) } ∧
    s.linesRetired v j ∧
    ∀ closed latch : Page, closed = marked.set 5 0x00#8 → latch = Vector.ofFn (fun x => closed[x] ||| ~~~marked[x]) →
      u = { retakeHeldWrite v with
        job := some { j with
          stage := .close, headerImage := some closed
          loop := some (.program (headerPage (journalFor j.sector)) closed latch 1) },
        op := some (.programPulse (headerPage (journalFor j.sector)) latch .setup) }

/-- `u` is `s` at the end of a rewrite that failed on its target, before the record goes: the sector quarantined with ground COPY, its
lines retired, a held write taken again (log 27 where its page is blocked), then the OPEN and SEALED lines of the sector FAILED and a
QUARANTINED entry made (R78, R105). -/
def State.targetFailed (s u : State) (j : Job) (step : FaultStep) (pulses : Nat) : Prop :=
  ∃ v r : State,
    v = { s with
      op := none, lines := v.lines, ageList := v.ageList, commitQueue := v.commitQueue,
      quarantine := s.quarantine.set (bankOf j.sector) { sector := some j.sector, ground := .copy, pending := .none },
      port := s.portAfter (s.heldBy j), portAnswer := s.answerAfter (s.heldBy j) (.okay []) } ∧
    s.linesRetired v j ∧ r = retakeHeldWrite v ∧
    u = { r with
      lines := u.lines, commitQueue := u.commitQueue,
      port := r.portAfter (r.cascadedIn j.sector), portAnswer := r.answerAfter (r.cascadedIn j.sector) (.error .commitFail),
      log := r.log.append (.quarantined j.sector step pulses) } ∧
    r.linesFailed u (r.cascadedIn j.sector)

/-- A byte of a page falls through to the ground: no line holds it and no buffer is LOADED with its sector (R85, R90). -/
def State.fallsThrough (s : State) (p : PageNo) (x : Fin 64) : Prop :=
  (∀ k ∈ s.ageList, s.lines[k].state = .free ∨ s.lines[k].page ≠ some p ∨ s.lines[k].staged[x] = none) ∧
  ∀ img, s.buffer ≠ .loaded (sectorOf p) img

/-- The cells, not a journal copy, are the ground of a sector: no journal is OPEN naming it, or its record's ground is CELLS (R86). -/
def State.groundIsCells (s : State) (sec : SectorNo) : Prop :=
  (∀ j, journalState s j ≠ .openFor sec) ∨
  ((s.quarantine.get (bankOf sec)).sector = some sec ∧ (s.quarantine.get (bankOf sec)).ground = .cells)

/-- The commands that change no byte a read returns: not a port write or the retaking of one, a DISCARD_PAGE or what may hand one over,
a completion, a pulse's end or a reset (R88, R89). -/
def keepsReads : Instr → Bool
  | .pwarnAsserted | .pwarnDeasserted | .holdTimerExpiry | .heldReadEvaluated | .throughAnswer | .ageTimerExpiry
  | .setupExpiry | .holdExpiry | .commit | .restore | .closeJob | .replay | .drained | .flushDeferredResponse
  | .syncByte _ _ _ | .syncCandidateBegin | .syncCandidateTimeout | .syncAnswerSent | .gap | .framingError
  | .quietWaitEnd | .breakRecognised | .overrun | .resetRelease => true
  | _ => false

/-- The fault log after an entry is appended in READY or STARTING, and unchanged in DRAINING and DRAINED (R135). -/
def State.logAfterRefusal (s : State) (t : Transaction) (r : RefusedReason) : FaultLog :=
  if s.frontEnd = .ready ∨ s.frontEnd = .starting then s.log.append (.refused t.address t.direction r) else s.log

/-- `s` after a refusal in a step that takes a transaction: ERROR, and the entry where one is made (R135). -/
def State.afterRefusal (s : State) (t : Transaction) (r : RefusedReason) : State :=
  { s with port := .idle, portAnswer := some (.error (.refused r)), log := s.logAfterRefusal t r }

/-- The reset values the spec gives every block (R16, R40, R62, R104, R115, R116, R137, R138, R159, R161, R169, R176), and the cause
(R139). -/
def State.isResetBy (t : State) (cause : ResetCause) : Prop :=
  t.op = none ∧ t.job = none ∧ t.buffer = .empty ∧ t.journals = { zero := .unknown, one := .unknown } ∧
  t.quarantine = { zero := { sector := none, ground := .copy, pending := .none },
                   one := { sector := none, ground := .copy, pending := .none } } ∧
  (∀ i : LineNo, t.lines[i].state = .free ∧ t.lines[i].page = none ∧ t.lines[i].age = 0 ∧
    t.lines[i].through = false ∧ ∀ x : Fin 64, t.lines[i].staged[x] = none) ∧
  t.ageList = [] ∧ t.commitQueue = [] ∧ t.ageTimer = none ∧
  (∀ n : Fin 8, t.regions[n] = { valid := false, base := 0, limit := 4095, kind := .buffered, delay := none }) ∧
  t.settings = { tick := 20, delay := 4, pgmPulse := 20, pgmMax := 4, ersPulse := 4, ersMax := 6, holdLimit := 64,
                 defaultKind := .buffered } ∧
  t.port = .idle ∧ t.frontEnd = .inReset ∧ t.resetCause = cause ∧
  t.log = { entries := [], dropped := 0, nextSeq := 0 } ∧
  t.link.state = .syncWait ∧ t.link.bitTime = none ∧ t.link.frame = none ∧ t.link.buffered = none ∧
  t.link.quietWait = false ∧ t.link.overrunFlag = false ∧ t.link.framingFlag = false ∧
  t.link.transmitter = .resting ∧ t.link.completing = none ∧ t.unit.request = none ∧ t.unit.deferred = none ∧ t.unit.resetDue = false

/-! ## Layers at a completion -/

/-- A COMMIT at its pre-read, or at its verify with its line filled: no buffer, the ground of its sector the cells, and the head the
oldest line of its page (R42, R47, R54). -/
def State.commitHandsOver (s : State) (c : Instr) (j : Job) : Prop :=
  ∃ (i : LineNo) (p : PageNo), c = .readPageComplete ∧ sectorOf p = j.sector ∧ s.op = some (.readPage (.user p)) ∧
    j.head = some i ∧ j.members = [] ∧ j.page = some p ∧ s.lines[i].state = .committing ∧ s.lines[i].page = some p ∧
    (∀ older newer : List LineNo, s.ageList = older ++ i :: newer → ∀ k ∈ older, s.lines[k].page ≠ some p) ∧
    s.buffer = .empty ∧ s.groundIsCells j.sector ∧
    (j.stage = .preRead ∧ j.loop = none ∨
      ∃ image latch n, j.stage = .program ∧ j.loop = some (.program (.user p) image latch n) ∧
        s.lines[i].staged = filledWith image)

/-- A rewrite at its journal check, the journal OPEN for no sector, or at a LOAD read but the last (R67, R68, R70). -/
def State.loadHandsOver (s : State) (c : Instr) (j : Job) : Prop :=
  (∃ n, c = .blankCheckComplete ∧ s.op = some (.blankCheck (.journal (journalFor j.sector))) ∧ j.stage = .journalCheck ∧
    j.loop = some (.erase (.journal (journalFor j.sector)) n) ∧ s.buffer = .empty ∧
    ∀ r, journalState s (journalFor j.sector) ≠ .openFor r) ∨
  ∃ (k : Fin 16) (img : Image), k < 15 ∧ c = .readPageComplete ∧ s.op = some (.readPage (.user (sectorPage j.sector k))) ∧
    j.stage = .load k ∧ j.loop = none ∧ s.buffer = .assembling j.sector img

/-- A rewrite at its last LOAD read, at which MERGE comes: the buffer holds the cells read before, the ground of the sector the cells,
the journal OPEN for no sector (R70, R71). -/
def State.mergeHandsOver (s : State) (c : Instr) (j : Job) : Prop :=
  ∃ (i : LineNo) (img : Image), c = .readPageComplete ∧ s.op = some (.readPage (.user (sectorPage j.sector 15))) ∧
    j.stage = .load 15 ∧ j.loop = none ∧ j.head = some i ∧ j.members = [] ∧ s.lines[i].state = .committing ∧
    (∀ q ∈ s.lines[i].page, sectorOf q = j.sector) ∧ s.buffer = .assembling j.sector img ∧
    (∀ k : Fin 16, k < 15 → img[k] = readCells s.cells (.user (sectorPage j.sector k))) ∧ s.groundIsCells j.sector ∧
    ∀ r, journalState s (journalFor j.sector) ≠ .openFor r

/-- A rewrite in COPY, HEADER or SCRUB: the buffer LOADED with the sector differs from the cells only where a line of the job holds the
byte, the ground of the sector is the cells, and the journal is OPEN for no sector (R71, R73 to R75). -/
def State.copyHandsOver (s : State) (c : Instr) (j : Job) : Prop :=
  ∃ img : Image, s.buffer = .loaded j.sector img ∧ s.groundIsCells j.sector ∧
    (∀ r, journalState s (journalFor j.sector) ≠ .openFor r) ∧
    (∀ (k : Fin 16) (x : Fin 64),
      (∀ l : LineNo, s.heldBy j l = true →
        s.lines[l].page ≠ some (sectorPage j.sector k) ∨ s.lines[l].staged[x] = none) →
      img[k][x] = Memory.read s.cells (64 * (16 * j.sector.val + k.val) + x.val)) ∧
    ((∃ k image latch n, c = .readPageComplete ∧ s.op = some (.readPage (copyPage (journalFor j.sector) k)) ∧
        j.stage = .copy k ∧ j.loop = some (.program (copyPage (journalFor j.sector) k) image latch n)) ∨
      (∃ image latch n, c = .readPageComplete ∧ s.op = some (.readPage (headerPage (journalFor j.sector))) ∧
        j.stage = .header ∧ j.loop = some (.program (headerPage (journalFor j.sector)) image latch n)) ∨
      ∃ n, c = .blankCheckComplete ∧ s.op = some (.blankCheck (.journal (journalFor j.sector))) ∧ j.stage = .scrub ∧
        j.loop = some (.erase (.journal (journalFor j.sector)) n))

/-- A rewrite at the verify of its COPY_DONE mark, the buffer LOADED with the sector, the journal OPEN for no sector yet (R74). -/
def State.journalOpens (s : State) (c : Instr) (j : Job) : Prop :=
  ∃ image latch n img, c = .readPageComplete ∧ s.op = some (.readPage (headerPage (journalFor j.sector))) ∧
    j.stage = .copyDone ∧ j.loop = some (.program (headerPage (journalFor j.sector)) image latch n) ∧
    s.buffer = .loaded j.sector img ∧ ∀ r, journalState s (journalFor j.sector) ≠ .openFor r

/-- A recovery job at a read of its copy load: the copy is the ground of the sector, and the buffer holds the copy pages read before
(R108, R109). -/
def State.copyLoadHandsOver (s : State) (c : Instr) (j : Job) : Prop :=
  ∃ (k : Fin 16) (img : Image), c = .readPageComplete ∧ s.op = some (.readPage (copyPage (journalFor j.sector) k)) ∧
    j.stage = .loadCopy k ∧ j.loop = none ∧ s.buffer = .assembling j.sector img ∧
    (∀ m : Fin 16, m < k → img[m] = readCells s.cells (copyPage (journalFor j.sector) m)) ∧
    journalState s (journalFor j.sector) = .openFor j.sector ∧ ¬ s.groundIsCells j.sector

/-- A rewrite or a RESTORE at its target steps: the journal is OPEN for the sector and its copy holds what the LOADED buffer holds; and
each byte of a line that a rewrite holds is the buffer's, unless a newer line of the job holds it (R71, R76 to R79, R109, R111). -/
def State.targetHandsOver (s : State) (c : Instr) (j : Job) : Prop :=
  ∃ img : Image, s.buffer = .loaded j.sector img ∧ journalState s (journalFor j.sector) = .openFor j.sector ∧
    ((∃ k image latch n, c = .readPageComplete ∧ s.op = some (.readPage (.user (sectorPage j.sector k))) ∧
        j.stage = .targetProgram k ∧ j.loop = some (.program (.user (sectorPage j.sector k)) image latch n)) ∨
      ∃ n, c = .blankCheckComplete ∧ s.op = some (.blankCheck (.user j.sector)) ∧ j.stage = .targetErase ∧
        j.loop = some (.erase (.user j.sector) n)) ∧
    (∀ (k : Fin 16) (x : Fin 64),
      Memory.read s.cells (journalBase (journalFor j.sector) + 64 * (k.val + 1) + x.val) = img[k][x]) ∧
    (j.kind = .restore ∨ j.kind = .rewrite ∧
      ∀ (older newer : List LineNo) (l : LineNo) (p : PageNo), s.ageList = older ++ l :: newer → s.heldBy j l = true →
        s.lines[l].page = some p →
        sectorOf p = j.sector ∧ (∀ n ∈ older, s.lines[n].page = some p → s.heldBy j n = true) ∧
        ∀ (x : Fin 64) (b : Byte), s.lines[l].staged[x] = some b →
          (∀ n ∈ newer, s.heldBy j n = true → s.lines[n].page ≠ some p ∨ s.lines[n].staged[x] = none) →
          img[pageInSector p][x] = b)

/-- A rewrite at its CLOSE, or a RESTORE at its close step: the cells of the sector hold what the LOADED buffer holds, the journal OPEN
for it (R80, R110, R111). -/
def State.closeHandsOver (s : State) (c : Instr) (j : Job) : Prop :=
  ∃ img : Image, s.buffer = .loaded j.sector img ∧ journalState s (journalFor j.sector) = .openFor j.sector ∧
    (j.kind = .rewrite ∨ j.kind = .restore) ∧
    ((∃ image latch n, c = .readPageComplete ∧ s.op = some (.readPage (headerPage (journalFor j.sector))) ∧ j.stage = .close ∧
        j.loop = some (.program (headerPage (journalFor j.sector)) image latch n)) ∨
      (c = .readPageComplete ∧ s.op = some (.readPage (headerPage (journalFor j.sector))) ∧ j.kind = .restore ∧
        j.stage = .close ∧ j.loop = none) ∨
      ∃ n, c = .blankCheckComplete ∧ s.op = some (.blankCheck (.journal (journalFor j.sector))) ∧ j.stage = .closeErase ∧
        j.loop = some (.erase (.journal (journalFor j.sector)) n)) ∧
    (∀ (k : Fin 16) (x : Fin 64), Memory.read s.cells (64 * (16 * j.sector.val + k.val) + x.val) = img[k][x])

/-- A pulse in flight moves no byte that a read takes: its page lies under a line that holds every position, its page or sector under the
buffer LOADED with it, it is a header page, or it lies in a journal from which no read takes bytes (R76, R85 to R88). -/
def State.pulseIsCovered (s : State) : Prop :=
  (∃ (i : LineNo) (p : PageNo) (latch : Page) (w : Nat), s.op = some (.programPulse (.user p) latch (.pulse w)) ∧
    s.lines[i].state ≠ .free ∧ s.lines[i].page = some p ∧ fillsPage s.lines[i].staged) ∨
  (∃ sec img, s.buffer = .loaded sec img ∧
    ((∃ k latch w, s.op = some (.programPulse (.user (sectorPage sec k)) latch (.pulse w))) ∨
      ∃ w, s.op = some (.erasePulse (.user sec) (.pulse w)))) ∨
  (∃ jn latch w, s.op = some (.programPulse (headerPage jn) latch (.pulse w))) ∨
  ∃ jn, ((∃ k latch w, s.op = some (.programPulse (copyPage jn k) latch (.pulse w))) ∨
      ∃ w, s.op = some (.erasePulse (.journal jn) (.pulse w))) ∧
    ∀ r, journalState s jn = .openFor r → (∃ img, s.buffer = .loaded r img) ∨ s.groundIsCells r

end Sys2Proof.Machine
end

