-- ==== Sys2Proof/WellFormed.lean ====
section
/-! DEFINITION. Which commands are well formed: each row names a case, and a command whose operands are of another case
(a length fault whose LEN is 12 or less, a bad command whose CMD is a known code) is not that row. -/

namespace Sys2Proof

/-- The command codes of the part, section 11.6. -/
def WellFormed.knownCodes : List Byte :=
  [0x01#8, 0x02#8, 0x10#8, 0x11#8, 0x12#8, 0x13#8, 0x20#8, 0x30#8, 0x31#8, 0x40#8, 0x41#8, 0x50#8, 0x51#8, 0x7F#8]

/-- A residue lists offsets of one journal sector at most (1,088 bytes, R3), each once, rising. -/
def WellFormed.residue (left : PulseResidue) : Bool :=
  decide (left.Pairwise (fun a b => a.1 < b.1)) && left.all (fun c => decide (c.1 < 1088))

/-- The checks on a command's operands. -/
def WellFormed (i : Instr) : Bool :=
  match i with
  | .powerOn left | .resetPin left | .linkCommandReset left | .pulseExpiry left => WellFormed.residue left
  | .lengthFaultFrame _ _ len => decide (12 < len.toNat)
  | .badCommand cmd _ args => !(WellFormed.knownCodes.contains cmd) && decide (args.length ≤ 12)
  | .resetRelease | .pwarnAsserted | .pwarnDeasserted | .portTransaction _ | .holdTimerExpiry | .startHoldResume
  | .heldWriteRetaken | .heldReadEvaluated | .throughAnswer | .ageTimerExpiry | .setupExpiry | .holdExpiry
  | .readPageComplete | .blankCheckComplete | .commit | .restore | .closeJob | .replay | .endOfStartup | .drained
  | .flushDeferredResponse | .syncByte _ _ _ | .syncCandidateTimeout | .gap | .framingError | .quietWaitEnd
  | .breakRecognised | .overrun | .responseSent | .ident _ | .status _ | .getRegion _ _ | .setRegion _ _ _ _ _ _ _
  | .getSettings _ | .setSetting _ _ _ | .flush _ _ | .readFault _ | .ackFault _ _ _ | .retryPage _ _
  | .discardPage _ _ | .restoreSector _ _ | .dropJournal _ _ | .resetPart _ | .byteReceived _ | .syncCandidateBegin
  | .syncAnswerSent => true

end Sys2Proof
end

