-- ==== Sys2Proof/Certificates/Slice0/Obligations.lean ====
section
/-! DEFINITION. The statements for the provers, in the order of OBLIGATIONS.json. -/

open Sys2Proof Sys2Proof.Machine

/-! ## The step -/

/-- A step with a command at the front of the queue is that command's meaning on the queue's rest. -/
def Obligations.StepRunsTheFrontCommand : Prop :=
  ∀ (c : Instr) (rest : List Instr) (s : State),
    step { s with pending := c :: rest } = exec c { s with pending := rest }

/-- An IDLE port, out of reset, takes the transaction that has waited longest, the one just presented when none waits; on an empty
queue it takes one that waits, and otherwise the block idles (the model's choice, logs 7 and 8). A busy port lets it wait. -/
def Obligations.PortTakesTheOldestTransaction : Prop :=
  ∀ (s : State) (t u : Transaction) (rest : List Transaction),
    (s.port = .idle → s.frontEnd ≠ .inReset → s.bus ++ [t] = u :: rest →
      exec (.portTransaction t) s = .next (chooseJob (takeTransaction { s with bus := rest, portAnswer := none } u))) ∧
    (s.port ≠ .idle ∨ s.frontEnd = .inReset → exec (.portTransaction t) s = .next { s with bus := s.bus ++ [t] }) ∧
    (s.pending = [] → s.port = .idle → s.frontEnd ≠ .inReset → s.bus = u :: rest →
      step s = .next (chooseJob (takeTransaction { s with bus := rest, portAnswer := none } u))) ∧
    (s.pending = [] → s.port ≠ .idle ∨ s.frontEnd = .inReset ∨ s.bus = [] → step s = .next s)

/-! ## Reset, release and the power warning -/

/-- Each of the three resets is taken, with what it leaves of every block, and touches neither the input levels nor, by the model's
choice (log 7), the waiting transactions. By the model's choice too, RESET_PIN with RESETn already low leaves the state (log 2), and
LINK_COMMAND_RESET acts exactly when RESET_PART's reset is due (log 14). -/
def Obligations.ResetsLeaveEveryBlockReset : Prop :=
  ∀ (s : State) (left : PulseResidue),
    (∃ t, exec (.powerOn left) s = .next t ∧ t.isResetBy .powerOn ∧ t.pwarn = s.pwarn ∧ t.bus = s.bus ∧
      t.resetnLow = s.resetnLow) ∧
    (s.resetnLow = false → ∃ t, exec (.resetPin left) s = .next t ∧ t.isResetBy .resetPin ∧ t.pwarn = s.pwarn ∧
      t.bus = s.bus ∧ t.resetnLow = true) ∧
    (s.unit.resetDue = true → ∃ t, exec (.linkCommandReset left) s = .next t ∧ t.isResetBy .linkCommand ∧
      t.pwarn = s.pwarn ∧ t.bus = s.bus ∧ t.resetnLow = s.resetnLow) ∧
    (s.resetnLow = true → exec (.resetPin left) s = .next s) ∧
    (s.unit.resetDue = false → exec (.linkCommandReset left) s = .next s)

/-- The cells after a reset of any of the three causes: only a pulse in its pulse phase changes them, only in its target, a program
pulse never from 0 to 1 and an erase pulse never from 1 to 0. -/
def Obligations.ResetLeavesCellsByPhase : Prop :=
  ∀ (s : State) (left : PulseResidue) (c : Instr), s.cellsCanonical →
    c = .powerOn left ∨ (c = .resetPin left ∧ s.resetnLow = false) ∨
      (c = .linkCommandReset left ∧ s.unit.resetDue = true) →
    ∃ t, exec c s = .next t ∧
    (∀ cp latch w, s.op = some (.programPulse cp latch (.pulse w)) →
      ∀ a, (cp.base ≤ a ∧ a < cp.base + 64 → Memory.read t.cells a &&& Memory.read s.cells a = Memory.read t.cells a) ∧
        (a < cp.base ∨ cp.base + 64 ≤ a → Memory.read t.cells a = Memory.read s.cells a)) ∧
    (∀ g w, s.op = some (.erasePulse g (.pulse w)) →
      ∀ a, (g.base ≤ a ∧ a < g.base + g.size → Memory.read t.cells a ||| Memory.read s.cells a = Memory.read t.cells a) ∧
        (a < g.base ∨ g.base + g.size ≤ a → Memory.read t.cells a = Memory.read s.cells a)) ∧
    ((∀ cp latch w, s.op ≠ some (.programPulse cp latch (.pulse w))) → (∀ g w, s.op ≠ some (.erasePulse g (.pulse w))) →
      t.cells = s.cells)

/-- PWARN asserted: in READY every OPEN line is sealed in age-list order, a write held for a line is refused DRAIN without an entry,
and the state is DRAINED when nothing is queued, runs or is pending, else DRAINING; then the job choice is made. In STARTING,
DRAINING and DRAINED the level is noted and nothing else. -/
def Obligations.PwarnAssertedBeginsTheDrain : Prop :=
  ∀ s : State, s.linesLaw →
    (s.frontEnd = .ready → ∃ u, exec .pwarnAsserted s = .next (chooseJob u) ∧
      u = { s with
        pwarn := true, pwarnNoted := true, lines := u.lines, commitQueue := s.commitQueue ++ linesByAge s .open,
        port := if s.holdsForLine then .idle else s.port,
        portAnswer := if s.holdsForLine then some (.error .drain) else s.portAnswer,
        frontEnd :=
          if s.commitQueue ++ linesByAge s .open = [] ∧ s.job = none ∧ s.nothingPending then .drained else .draining } ∧
      ∀ i : LineNo, u.lines[i] =
        if s.lines[i].state = .open then { s.lines[i] with state := .sealed } else s.lines[i]) ∧
    (s.frontEnd = .starting ∨ s.frontEnd = .draining ∨ s.frontEnd = .drained →
      exec .pwarnAsserted s = .next { s with pwarn := true, pwarnNoted := true })

/-- PWARN deasserted: DRAINING and DRAINED return to READY and nothing is undone; elsewhere the level is noted. -/
def Obligations.PwarnDeassertedReturnsToReady : Prop :=
  ∀ s : State,
    (s.frontEnd = .draining ∨ s.frontEnd = .drained →
      exec .pwarnDeasserted s = .next { s with pwarn := false, pwarnNoted := false, frontEnd := .ready }) ∧
    (s.frontEnd = .ready ∨ s.frontEnd = .starting →
      exec .pwarnDeasserted s = .next { s with pwarn := false, pwarnNoted := false })

/-- Release: STARTING, the PWARN level noted, RESETn high, and the blank check of J0 begun; a transaction still waiting at an IDLE port's
bus is taken as a new one in STARTING, refused at its alignment or by its kind, or held for start-up. Out of reset RESET_RELEASE does
nothing, by the model's choice (log 2). The end of start-up: READY, or DRAINED when the noted PWARN level is asserted; the age timer
runs with the period TICK × 50 µs; and a transaction held for start-up takes the rest of its checks in that state, the first job choice
seeing what it has queued (the model's choice, log 28). END_OF_STARTUP as a command of its own ends start-up where the scan has ended
(the model's choice, log 1). -/
def Obligations.StartUpBeginsAndEnds : Prop :=
  ∀ s : State,
    (s.frontEnd = .inReset → ∀ r : State,
      r = { s with frontEnd := .starting, pwarnNoted := s.pwarn, resetnLow := false, scan := .blankCheck .j0,
                   op := some (.blankCheck (.journal .j0)) } →
      (s.bus = [] ∨ s.port ≠ .idle → exec .resetRelease s = .next r) ∧
      (∀ t rest, s.port = .idle → s.bus = t :: rest →
        (passesAlignment t = false → exec .resetRelease s = .next ({ r with bus := rest }.afterRefusal t .align)) ∧
        (passesAlignment t = true → kindOf s (transactionPage t) = .noAccess →
          exec .resetRelease s = .next ({ r with bus := rest }.afterRefusal t .noAccess)) ∧
        (passesAlignment t = true → kindOf s (transactionPage t) = .readOnly → t.direction = .write →
          exec .resetRelease s = .next ({ r with bus := rest }.afterRefusal t .readOnly)) ∧
        (passesAlignment t = true → kindOf s (transactionPage t) ≠ .noAccess →
          ¬(kindOf s (transactionPage t) = .readOnly ∧ t.direction = .write) → exec .resetRelease s = .next
            { r with bus := rest, portAnswer := none,
                     port := .held t (kindOf s (transactionPage t)) .start (s.settings.holdLimit * 32) }))) ∧
    (s.frontEnd ≠ .inReset → exec .resetRelease s = .next s) ∧
    (s.frontEnd = .starting → s.portAwaitsStart = true → s.job = none → s.commitQueue = [] →
      s.ageList = [] → s.nothingPending → ∀ u : State,
      u = { s with scan := .off, frontEnd := if s.pwarnNoted then .drained else .ready,
                   ageTimer := some (s.settings.tick * 50) } →
      (s.port = .idle → endStartup s = u) ∧
      exec .startHoldResume u = .next (endStartup s) ∧
      (s.scan = .ended → exec .endOfStartup s = .next (endStartup s)))

/-- The drain test: met exactly in DRAINING with an empty queue, no job and no pending recovery job. -/
def Obligations.DrainTestAssertsDrained : Prop :=
  ∀ s : State,
    (s.frontEnd = .draining → s.commitQueue = [] → s.job = none → s.nothingPending →
      exec .drained s = .next { s with frontEnd := .drained }) ∧
    (s.frontEnd ≠ .draining ∨ s.commitQueue ≠ [] ∨ s.job ≠ none ∨ ¬ s.nothingPending → exec .drained s = .next s)

/-! ## The system port -/

/-- The alignment check of the model is the one of R129. -/
def Obligations.AlignmentCheckIsTheSpecs : Prop :=
  ∀ t : Transaction, passesAlignment t = true ↔
    (t.size = 1 ∨ t.size = 2 ∨ t.size = 4) ∧ t.address.toNat % t.size = 0 ∧
    (t.direction = .write → ∀ lane : Fin 4, t.strobes.getLsbD lane.val = true ↔
      t.address.toNat % 4 ≤ lane.val ∧ lane.val < t.address.toNat % 4 + t.size)

/-- Refusals in the step that takes a transaction, in the order of the checks: ALIGN before all else, then the kind, in every
front-end state; DRAIN without an entry; QUARANTINE; FAILED_PAGE. Nothing but the port and the log changes. -/
def Obligations.RefusalsAtAcceptance : Prop :=
  ∀ (s : State) (t : Transaction), s.portReady → s.nothingToStart →
    (passesAlignment t = false → exec (.portTransaction t) s = .next (s.afterRefusal t .align)) ∧
    (passesAlignment t = true → kindOf s (transactionPage t) = .noAccess →
      exec (.portTransaction t) s = .next (s.afterRefusal t .noAccess)) ∧
    (passesAlignment t = true → kindOf s (transactionPage t) = .readOnly → t.direction = .write →
      exec (.portTransaction t) s = .next (s.afterRefusal t .readOnly)) ∧
    (passesAlignment t = true → kindOf s (transactionPage t) = .buffered ∨ kindOf s (transactionPage t) = .through →
      t.direction = .write →
      (s.frontEnd = .draining ∨ s.frontEnd = .drained →
        exec (.portTransaction t) s = .next { s with portAnswer := some (.error .drain) }) ∧
      (s.frontEnd = .ready → isNamed s (sectorOf (transactionPage t)) = true →
        exec (.portTransaction t) s = .next (s.afterRefusal t .quarantine)) ∧
      (s.frontEnd = .ready → isNamed s (sectorOf (transactionPage t)) = false → isBlocked s (transactionPage t) = true →
        exec (.portTransaction t) s = .next (s.afterRefusal t .failedPage)))

/-- In STARTING an aligned transaction that its kind allows is held for the end of start-up, its hold timer loaded with
HOLD_LIMIT × 32 µs. -/
def Obligations.StartingHoldsTransactions : Prop :=
  ∀ (s : State) (t : Transaction), s.portReady → s.frontEnd = .starting → passesAlignment t = true →
    kindOf s (transactionPage t) ≠ .noAccess → ¬(kindOf s (transactionPage t) = .readOnly ∧ t.direction = .write) →
    exec (.portTransaction t) s = .next
      { s with portAnswer := none, port := .held t (kindOf s (transactionPage t)) .start (s.settings.holdLimit * 32) }

/-- A write to a page with no OPEN line opens the FREE line with the lowest index. A BUFFERED write is answered OKAY at once; a
THROUGH write seals its line and waits on it, with no timer. The job choice ends the step. -/
def Obligations.WriteOpensTheLowestFreeLine : Prop :=
  ∀ (s : State) (t : Transaction) (i : LineNo), s.portReady → s.frontEnd = .ready → t.direction = .write →
    passesAlignment t = true → isNamed s (sectorOf (transactionPage t)) = false →
    isBlocked s (transactionPage t) = false →
    (∀ k : LineNo, ¬(s.lines[k].state = .open ∧ s.lines[k].page = some (transactionPage t))) →
    s.lines[i].state = .free → (∀ k : LineNo, k < i → s.lines[k].state ≠ .free) →
    (kindOf s (transactionPage t) = .buffered → exec (.portTransaction t) s = .next (chooseJob
      { s with
        portAnswer := some (.okay []), ageList := s.ageList ++ [i],
        lines := s.lines.set i (openedFor t .open false) })) ∧
    (kindOf s (transactionPage t) = .through → exec (.portTransaction t) s = .next (chooseJob
      { s with
        port := .commitWait t .through i, portAnswer := none, ageList := s.ageList ++ [i],
        commitQueue := s.commitQueue ++ [i], lines := s.lines.set i (openedFor t .sealed true) }))

/-- A write to a page with an OPEN line merges into it, keeping its age and its place in the age list. A BUFFERED write is answered
OKAY and seals the line when its valid set has reached 64 positions; a THROUGH write seals it and waits on it. -/
def Obligations.WriteMergesIntoTheOpenLine : Prop :=
  ∀ (s : State) (t : Transaction) (i : LineNo), s.portReady → s.frontEnd = .ready → t.direction = .write →
    passesAlignment t = true → isNamed s (sectorOf (transactionPage t)) = false →
    isBlocked s (transactionPage t) = false →
    s.lines[i].state = .open → s.lines[i].page = some (transactionPage t) →
    (∀ k : LineNo, s.lines[k].state = .open → s.lines[k].page = some (transactionPage t) → k = i) →
    (kindOf s (transactionPage t) = .buffered → ¬ fillsPage (writtenOver s.lines[i].staged t) →
      exec (.portTransaction t) s = .next (chooseJob
        { s with
          portAnswer := some (.okay []),
          lines := s.lines.set i { s.lines[i] with staged := writtenOver s.lines[i].staged t } })) ∧
    (kindOf s (transactionPage t) = .buffered → fillsPage (writtenOver s.lines[i].staged t) →
      exec (.portTransaction t) s = .next (chooseJob
        { s with
          portAnswer := some (.okay []), commitQueue := s.commitQueue ++ [i],
          lines := s.lines.set i { s.lines[i] with staged := writtenOver s.lines[i].staged t, state := .sealed } })) ∧
    (kindOf s (transactionPage t) = .through → exec (.portTransaction t) s = .next (chooseJob
      { s with
        port := .commitWait t .through i, portAnswer := none, commitQueue := s.commitQueue ++ [i],
        lines := s.lines.set i
          { s.lines[i] with staged := writtenOver s.lines[i].staged t, state := .sealed, through := true } }))

/-- A write that finds no FREE line seals the oldest OPEN line, if any, and is held for a line; the job choice ends the step. -/
def Obligations.WriteWithoutFreeLineIsHeld : Prop :=
  ∀ (s : State) (t : Transaction), s.portReady → s.frontEnd = .ready → t.direction = .write →
    passesAlignment t = true →
    kindOf s (transactionPage t) = .buffered ∨ kindOf s (transactionPage t) = .through →
    isNamed s (sectorOf (transactionPage t)) = false → isBlocked s (transactionPage t) = false →
    (∀ k : LineNo, s.lines[k].state ≠ .free) →
    (∀ k : LineNo, ¬(s.lines[k].state = .open ∧ s.lines[k].page = some (transactionPage t))) →
    (linesByAge s .open = [] → exec (.portTransaction t) s = .next (chooseJob
      { s with portAnswer := none,
               port := .held t (kindOf s (transactionPage t)) .line (s.settings.holdLimit * 32) })) ∧
    (∀ i rest, linesByAge s .open = i :: rest → exec (.portTransaction t) s = .next (chooseJob
      { s with portAnswer := none,
               port := .held t (kindOf s (transactionPage t)) .line (s.settings.holdLimit * 32),
               lines := s.lines.set i { s.lines[i] with state := .sealed }, commitQueue := s.commitQueue ++ [i] }))

/-- A read is served at once when it needs no bank or its bank is not busy, and changes nothing but the answer; otherwise it is held
for the bank. The bank a read needs: none when no byte it covers falls through to the ground, else the bank of the ground, the sector's
own or that of the journal whose copy is its ground. A bank is busy while a cell operation on a page or sector of it is in flight. -/
def Obligations.ReadIsServedOrHeldForItsBank : Prop :=
  (∀ (s : State) (t : Transaction), s.portReady → s.nothingToStart → s.started → t.direction = .read →
    passesAlignment t = true → kindOf s (transactionPage t) ≠ .noAccess →
    (neededBank s t = none ∨ (∃ b, neededBank s t = some b ∧ bankBusy s b = false) →
      exec (.portTransaction t) s = .next { s with portAnswer := some (s.readAnswer t) }) ∧
    (∀ b, neededBank s t = some b → bankBusy s b = true →
      exec (.portTransaction t) s = .next
        { s with portAnswer := none,
                 port := .held t (kindOf s (transactionPage t)) .bank (s.settings.holdLimit * 32) })) ∧
  (∀ (s : State) (t : Transaction) (p : PageNo) (sec : SectorNo), p = transactionPage t → sec = sectorOf p →
    ((∀ x : Fin 64, isCovered t x = true → ¬ s.fallsThrough p x) → neededBank s t = none) ∧
    ((∃ x : Fin 64, isCovered t x = true ∧ s.fallsThrough p x) →
      (s.groundIsCells sec → neededBank s t = some (if sec.val < 128 then .bank0 else .bank1)) ∧
      (∀ j, ¬ s.groundIsCells sec → journalState s j = .openFor sec →
        (∀ j', journalState s j' = .openFor sec → j' = j) →
        neededBank s t = some (if j = .j0 then .bank0 else .bank1)))) ∧
  (∀ (s : State) (b : Bank),
    (s.op = none → bankBusy s b = false) ∧
    (∀ (p : PageNo) latch ph, s.op = some (.readPage (.user p)) ∨ s.op = some (.programPulse (.user p) latch ph) →
      (bankBusy s b = true ↔ b = if p.val < 2048 then .bank0 else .bank1)) ∧
    (∀ (sec : SectorNo) ph, s.op = some (.blankCheck (.user sec)) ∨ s.op = some (.erasePulse (.user sec) ph) →
      (bankBusy s b = true ↔ b = if sec.val < 128 then .bank0 else .bank1)) ∧
    (∀ j k latch ph, s.op = some (.readPage (.journal j k)) ∨ s.op = some (.programPulse (.journal j k) latch ph) ∨
        s.op = some (.blankCheck (.journal j)) ∨ s.op = some (.erasePulse (.journal j) ph) →
      (bankBusy s b = true ↔ b = if j = .j0 then .bank0 else .bank1)))

/-- The overlay order: the newest line that holds the position, else a buffer LOADED with the sector, else the journal copy of a
sector OPEN in a journal unless its record's ground is CELLS, else the cells. -/
def Obligations.OverlayOrder : Prop :=
  ∀ (s : State) (p : PageNo) (x : Fin 64),
    (∀ (older newer : List LineNo) (i : LineNo) (b : Byte), s.ageList = older ++ i :: newer →
      s.lines[i].state ≠ .free → s.lines[i].page = some p → s.lines[i].staged[x] = some b →
      (∀ k ∈ newer, s.lines[k].state = .free ∨ s.lines[k].page ≠ some p ∨ s.lines[k].staged[x] = none) →
      readByte s p x = b) ∧
    ((∀ k ∈ s.ageList, s.lines[k].state = .free ∨ s.lines[k].page ≠ some p ∨ s.lines[k].staged[x] = none) →
      (∀ img, s.buffer = .loaded (sectorOf p) img → readByte s p x = img[pageInSector p][x]) ∧
      ((∀ img, s.buffer ≠ .loaded (sectorOf p) img) →
        (∀ j, journalState s j = .openFor (sectorOf p) → (∀ j', journalState s j' = .openFor (sectorOf p) → j' = j) →
          ¬((s.quarantine.get (bankOf (sectorOf p))).sector = some (sectorOf p) ∧
            (s.quarantine.get (bankOf (sectorOf p))).ground = .cells) →
          readByte s p x = Memory.read s.cells (journalBase j + 64 * (p.val % 16 + 1) + x.val)) ∧
        ((∀ j, journalState s j ≠ .openFor (sectorOf p)) ∨
          ((s.quarantine.get (bankOf (sectorOf p))).sector = some (sectorOf p) ∧
            (s.quarantine.get (bankOf (sectorOf p))).ground = .cells) →
          readByte s p x = Memory.read s.cells (64 * p.val + x.val))))

/-- The hold timer's expiry refuses with the reason of the hold's cause and changes nothing but the port and the log. -/
def Obligations.HoldExpiryRefusesByCause : Prop :=
  ∀ (s : State) (t : Transaction) (k : AccessKind) (w : Nat),
    (s.port = .held t k .start w → exec .holdTimerExpiry s = .next (s.afterRefusal t .starting)) ∧
    (s.port = .held t k .line w → exec .holdTimerExpiry s = .next (s.afterRefusal t .stageFull)) ∧
    (s.port = .held t k .bank w → exec .holdTimerExpiry s = .next (s.afterRefusal t .holdLimit))

/-- START_HOLD_RESUME: after STARTING, a held write is refused DRAIN in DRAINING and DRAINED, refused QUARANTINE where its sector is
named, and otherwise, every line being FREE as at the end of start-up, opens line 0; a held read is served, no operation being in
flight. The job choice ends the step, and takes a line that a THROUGH write has sealed (the model's choice, log 28). In STARTING the hold
goes on. That the row is also a command of its own, acting in any step after
STARTING, is the model's choice (log 1). -/
def Obligations.StartHoldTakesTheRestOfItsChecks : Prop :=
  ∀ (s : State) (t : Transaction) (k : AccessKind) (w : Nat), s.port = .held t k .start w →
    (s.frontEnd = .starting → exec .startHoldResume s = .next s) ∧
    (t.direction = .write → s.frontEnd = .draining ∨ s.frontEnd = .drained →
      exec .startHoldResume s = .next (chooseJob { s with port := .idle, portAnswer := some (.error .drain) })) ∧
    (t.direction = .write → s.frontEnd = .ready → isNamed s (sectorOf (transactionPage t)) = true →
      exec .startHoldResume s = .next (chooseJob (s.afterRefusal t .quarantine))) ∧
    (t.direction = .write → s.frontEnd = .ready → isNamed s (sectorOf (transactionPage t)) = false →
      (∀ i : LineNo, s.lines[i].state = .free) →
      (k = .buffered → exec .startHoldResume s = .next (chooseJob
        { s with
          port := .idle, portAnswer := some (.okay []), ageList := s.ageList ++ [0],
          lines := s.lines.set 0 (openedFor t .open false) })) ∧
      (k = .through → exec .startHoldResume s = .next (chooseJob
        { s with
          port := .commitWait t k 0, ageList := s.ageList ++ [0], commitQueue := s.commitQueue ++ [0],
          lines := s.lines.set 0 (openedFor t .sealed true) }))) ∧
    (t.direction = .read → s.started → s.op = none →
      exec .startHoldResume s = .next (chooseJob { s with port := .idle, portAnswer := some (s.readAnswer t) }))

/-- A write held for a line, taken again: with a line FREE it is refused FAILED_PAGE, else refused QUARANTINE (that a write to which both
apply is refused FAILED_PAGE is the model's choice, log 27), else opened into the lowest FREE line; with no line FREE the hold goes on;
and where no write is held for a line nothing happens. HELD_WRITE_RETAKEN is that with the job choice, and so is a line's freeing
inside another command's step. -/
def Obligations.HeldWriteIsTakenAgain : Prop :=
  (∀ s : State, exec .heldWriteRetaken s = .next (chooseJob (retakeHeldWrite s))) ∧
  (∀ s : State, s.holdsForLine = false → retakeHeldWrite s = s) ∧
  ∀ (s : State) (t : Transaction) (k : AccessKind) (w : Nat), s.port = .held t k .line w →
    ((∀ n : LineNo, s.lines[n].state ≠ .free) → retakeHeldWrite s = s) ∧
    ∀ i : LineNo, s.lines[i].state = .free → (∀ n : LineNo, n < i → s.lines[n].state ≠ .free) →
      (isBlocked s (transactionPage t) = true → retakeHeldWrite s = s.afterRefusal t .failedPage) ∧
      (isBlocked s (transactionPage t) = false → isNamed s (sectorOf (transactionPage t)) = true →
        retakeHeldWrite s = s.afterRefusal t .quarantine) ∧
      (isBlocked s (transactionPage t) = false → isNamed s (sectorOf (transactionPage t)) = false →
        (k = .buffered → retakeHeldWrite s =
          { s with
            port := .idle, portAnswer := some (.okay []), ageList := s.ageList ++ [i],
            lines := s.lines.set i (openedFor t .open false) }) ∧
        (k = .through → retakeHeldWrite s =
          { s with
            port := .commitWait t k i, ageList := s.ageList ++ [i], commitQueue := s.commitQueue ++ [i],
            lines := s.lines.set i (openedFor t .sealed true) }))

/-- A read held for a bank: on its own it is served when it needs no bank or a bank that is not busy, and stays held otherwise. At the
completion of an operation on bank `b` it is served, after the sequencer's step, also when it needs `b`; when its need is the bank of
the next operation, it is served or stays held (log 9). Where no read is held, nothing is evaluated. The bank it needs and the busy
banks are those of ReadIsServedOrHeldForItsBank. -/
def Obligations.HeldReadIsEvaluated : Prop :=
  (∀ (s : State) (t : Transaction) (k : AccessKind) (w : Nat), s.port = .held t k .bank w →
    (neededBank s t = none ∨ (∃ b, neededBank s t = some b ∧ bankBusy s b = false) →
      exec .heldReadEvaluated s = .next { s with port := .idle, portAnswer := some (s.readAnswer t) }) ∧
    (∀ b, neededBank s t = some b → bankBusy s b = true → exec .heldReadEvaluated s = .next s)) ∧
  (∀ (s : State) (t : Transaction) (k : AccessKind) (w : Nat) (p : PageNo), s.port = .held t k .bank w →
    p = transactionPage t →
    ((∀ x : Fin 64, isCovered t x = true → ¬ s.fallsThrough p x) ∨ s.op = none →
      exec .heldReadEvaluated s = .next { s with port := .idle, portAnswer := some (s.readAnswer t) }) ∧
    (∀ o, s.op = some o → (∃ x : Fin 64, isCovered t x = true ∧ s.fallsThrough p x) → s.groundIsCells (sectorOf p) →
      (o.bank = bankOf (sectorOf p) → exec .heldReadEvaluated s = .next s) ∧
      (o.bank ≠ bankOf (sectorOf p) →
        exec .heldReadEvaluated s = .next { s with port := .idle, portAnswer := some (s.readAnswer t) }))) ∧
  (∀ (u : State) (b : Bank) (t : Transaction) (k : AccessKind) (w : Nat), u.port = .held t k .bank w →
    (neededBank u t = none ∨ neededBank u t = some b ∨ (∃ c, neededBank u t = some c ∧ bankBusy u c = false) →
      evaluateHeldRead b u = { u with port := .idle, portAnswer := some (u.readAnswer t) }) ∧
    (∀ c, neededBank u t = some c → c ≠ b → bankBusy u c = true →
      evaluateHeldRead b u = { u with freeIndex := u.freeIndex + 1 } ∨
      evaluateHeldRead b u =
        { u with freeIndex := u.freeIndex + 1, port := .idle, portAnswer := some (u.readAnswer t) })) ∧
  (∀ (u : State) (b : Bank), (∀ t k w, u.port ≠ .held t k .bank w) → evaluateHeldRead b u = u)

/-- THROUGH_ANSWER: OKAY when the line is FREE, ERROR without an entry when it is FAILED, its through field then false; while the line
is SEALED or COMMITTING the wait goes on. -/
def Obligations.ThroughAnswerFollowsTheLine : Prop :=
  ∀ (s : State) (t : Transaction) (k : AccessKind) (i : LineNo), s.port = .commitWait t k i →
    (s.lines[i].state = .free → exec .throughAnswer s = .next { s with port := .idle, portAnswer := some (.okay []) }) ∧
    (s.lines[i].state = .failed → exec .throughAnswer s = .next
      { s with port := .idle, portAnswer := some (.error .commitFail),
               lines := s.lines.set i { s.lines[i] with through := false } }) ∧
    (s.lines[i].state = .sealed ∨ s.lines[i].state = .committing → exec .throughAnswer s = .next s)

/-! ## Timers and cell operations -/

/-- An expiry of the age timer while RUNNING: every OPEN line ages by one and is sealed when its age has reached its commit delay, in
age-list order; the timer is reloaded with TICK × 50 µs as TICK stands; nothing else changes before the job choice. While STOPPED
nothing happens, by the model's choice (log 2). -/
def Obligations.AgeExpiryAgesAndSeals : Prop :=
  ∀ s : State, s.linesLaw →
    (s.ageTimer = none → exec .ageTimerExpiry s = .next s) ∧
    (s.ageTimer.isSome = true → ∃ u, exec .ageTimerExpiry s = .next (chooseJob u) ∧
      u = { s with lines := u.lines, commitQueue := s.commitQueue ++ (linesByAge s .open).filter s.ageReached,
                   ageTimer := some (s.settings.tick * 50) } ∧
      ∀ i : LineNo, u.lines[i] =
        if s.lines[i].state = .open then
          { s.lines[i] with
            age := s.lines[i].age + 1, state := if s.ageReached i then .sealed else .open }
        else s.lines[i])

/-- The phase timer. SETUP ends with the width sampled: PGM_PULSE µs, or ERS_PULSE × 250 µs. PULSE ends with the cells moved: a program
pulse turns no 0 bit to 1 and an erase pulse no 1 bit to 0, each in its target alone. HOLD ends with the verify READ_PAGE of a program
loop, or the BLANK_CHECK of an erase loop. -/
def Obligations.PhaseTimerRunsAPulse : Prop :=
  ∀ (s : State) (cp : CellPage) (g : Target) (latch : Page) (w : Nat) (left : PulseResidue), s.cellsCanonical →
    (s.op = some (.programPulse cp latch .setup) → exec .setupExpiry s = .next
      { s with op := some (.programPulse cp latch (.pulse s.settings.pgmPulse)) }) ∧
    (s.op = some (.erasePulse g .setup) → exec .setupExpiry s = .next
      { s with op := some (.erasePulse g (.pulse (s.settings.ersPulse * 250))) }) ∧
    (s.op = some (.programPulse cp latch (.pulse w)) → ∃ m, exec (.pulseExpiry left) s = .next
        { s with op := some (.programPulse cp latch (.hold w)), cells := m } ∧
      ∀ a, (cp.base ≤ a ∧ a < cp.base + 64 → Memory.read m a &&& Memory.read s.cells a = Memory.read m a) ∧
        (a < cp.base ∨ cp.base + 64 ≤ a → Memory.read m a = Memory.read s.cells a)) ∧
    (s.op = some (.erasePulse g (.pulse w)) → ∃ m, exec (.pulseExpiry left) s = .next
        { s with op := some (.erasePulse g (.hold w)), cells := m } ∧
      ∀ a, (g.base ≤ a ∧ a < g.base + g.size → Memory.read m a ||| Memory.read s.cells a = Memory.read m a) ∧
        (a < g.base ∨ g.base + g.size ≤ a → Memory.read m a = Memory.read s.cells a)) ∧
    (s.op = some (.programPulse cp latch (.hold w)) → ∀ j page image l n, s.job = some j →
      j.loop = some (.program page image l n) →
      exec .holdExpiry s = .next (evaluateHeldRead cp.target.bank { s with op := some (.readPage page) })) ∧
    (s.op = some (.erasePulse g (.hold w)) → ∀ j t n, s.job = some j → j.loop = some (.erase t n) →
      exec .holdExpiry s = .next (evaluateHeldRead g.bank { s with op := some (.blankCheck t) }))

/-- Every result R8, R9 and R15 allow of a pulse is the result of some well-formed residue: no outcome of the cells is left out of the
model (log 3). -/
def Obligations.EveryPulseResultIsReached : Prop :=
  ∀ (s : State) (cp : CellPage) (g : Target) (latch : Page) (w : Nat), s.cellsCanonical →
    (s.op = some (.programPulse cp latch (.pulse w)) →
      ∀ after : Page, (∀ x : Fin 64, after[x] &&& Memory.read s.cells (cp.base + x.val) = after[x]) →
      (∃ left t, WellFormed (.pulseExpiry left) = true ∧ exec (.pulseExpiry left) s = .next t ∧
        ∀ x : Fin 64, Memory.read t.cells (cp.base + x.val) = after[x]) ∧
      (∃ left t, WellFormed (.powerOn left) = true ∧ exec (.powerOn left) s = .next t ∧
        ∀ x : Fin 64, Memory.read t.cells (cp.base + x.val) = after[x])) ∧
    (s.op = some (.erasePulse g (.pulse w)) →
      ∀ after : Nat → Byte, (∀ o, o < g.size → after o ||| Memory.read s.cells (g.base + o) = after o) →
      (∃ left t, WellFormed (.pulseExpiry left) = true ∧ exec (.pulseExpiry left) s = .next t ∧
        ∀ o, o < g.size → Memory.read t.cells (g.base + o) = after o) ∧
      (∃ left t, WellFormed (.powerOn left) = true ∧ exec (.powerOn left) s = .next t ∧
        ∀ o, o < g.size → Memory.read t.cells (g.base + o) = after o))

/-! ## The commit -/

/-- The pre-read of a COMMIT on page `p`, head `i`: the target image is the staged bytes over the cells and fills the line. Image and
cells equal: no pulse, the line retires, a THROUGH write that waits on it is answered OKAY and a write held for a line is taken again. A
bit to set that reads 0 makes the job a rewrite: with its journal BLANK, LOAD begins; SPENT, the journal's erase; OPEN for another
sector, the head fails with the OPEN and SEALED lines of its page, a THROUGH write that waits on one is answered COMMIT_FAIL, and a
JOURNAL_HELD entry is made. Otherwise the program loop starts with the latch of the bits to clear. -/
def Obligations.PreReadDecides : Prop :=
  ∀ (s : State) (j : Job) (i : LineNo) (p : PageNo) (known image : Page), s.op = some (.readPage (.user p)) →
    s.job = some j → j.kind = .commit → j.stage = .preRead → j.loop = none → j.head = some i → j.members = [] →
    j.page = some p → s.lines[i].state = .committing → known = readCells s.cells (.user p) →
    (∀ x : Fin 64, image[x] = s.lines[i].staged[x].getD known[x]) →
    (image = known → s.waitLaw → exec .readPageComplete s = .next (evaluateHeldRead (bankOf (sectorOf p)) (endJob
      (retakeHeldWrite { s with
        op := none, lines := s.lines.set i Line.cleared, ageList := s.ageList.erase i,
        commitQueue := s.commitQueue.erase i, port := s.portAfter (· == i),
        portAnswer := s.answerAfter (· == i) (.okay []) })))) ∧
    ((∃ x : Fin 64, image[x] &&& ~~~known[x] ≠ 0#8) → ∀ f : State,
      f = { s with op := none, lines := s.lines.set i { s.lines[i] with staged := filledWith image } } →
      (journalState s (journalFor j.sector) = .blank →
        exec .readPageComplete s = .next (evaluateHeldRead (bankOf (sectorOf p))
          { f with
            job := some { j with kind := .rewrite, stage := .load 0 },
            buffer := .assembling j.sector erasedImage,
            op := some (.readPage (.user (sectorPage j.sector 0))) })) ∧
      (journalState s (journalFor j.sector) = .spent →
        exec .readPageComplete s = .next (evaluateHeldRead (bankOf (sectorOf p))
          { f with
            job := some { j with
              kind := .rewrite, stage := .journalCheck, loop := some (.erase (.journal (journalFor j.sector)) 1) },
            op := some (.erasePulse (.journal (journalFor j.sector)) .setup) })) ∧
      (∀ (sec : SectorNo) (failed : LineNo → Bool), journalState s (journalFor j.sector) = .openFor sec →
        sec ≠ j.sector → s.lines[i].page = some p → failed = (fun k => k == i || s.cascaded p k) → s.waitLaw →
        ∃ u : State, exec .readPageComplete s = .next (evaluateHeldRead (bankOf (sectorOf p)) (endJob u)) ∧
          u = { f with
            lines := u.lines, commitQueue := u.commitQueue, port := s.portAfter failed,
            portAnswer := s.answerAfter failed (.error .commitFail),
            log := s.log.append (.journalHeld p (journalFor j.sector)
              ((List.finRange 8).filter (s.cascaded p)).length) } ∧
          f.linesFailed u failed)) ∧
    (image ≠ known → (∀ x : Fin 64, image[x] &&& ~~~known[x] = 0#8) →
      exec .readPageComplete s = .next (evaluateHeldRead (bankOf (sectorOf p))
        { s with
          lines := s.lines.set i { s.lines[i] with staged := filledWith image },
          job := some { j with
            stage := .program
            loop := some (.program (.user p) image (Vector.ofFn fun x => image[x] ||| ~~~known[x]) 1) },
          op := some (.programPulse (.user p) (Vector.ofFn fun x => image[x] ||| ~~~known[x]) .setup) }))

/-- The verify of a program loop. Short of PGM_MAX pulses, with no bit disturbed and some bit still to clear, the next pulse takes the
latch of the bits still to clear, whatever the job. In a COMMIT: the page reads the image, and the line retires, a THROUGH write that
waits on it answered OKAY and a write held for a line taken again; a bit reads 0 that should read 1 (DISTURBED), or PGM_MAX pulses have
gone (EXHAUSTED), and the line fails with every OPEN and SEALED line of its page, a THROUGH write that waits on one answered
COMMIT_FAIL, with a PROGRAM_FAIL entry. -/
def Obligations.VerifyDecides : Prop :=
  ∀ (s : State) (j : Job) (cp : CellPage) (image latch read : Page) (n : Nat), s.op = some (.readPage cp) →
    s.job = some j → j.loop = some (.program cp image latch n) → read = readCells s.cells cp →
    (read ≠ image → (∀ x : Fin 64, image[x] &&& ~~~read[x] = 0#8) → n < s.settings.pgmMax →
      exec .readPageComplete s = .next (evaluateHeldRead cp.target.bank
        { s with
          job := some { j with
            loop := some (.program cp image (Vector.ofFn fun x => image[x] ||| ~~~read[x]) (n + 1)) },
          op := some (.programPulse cp (Vector.ofFn fun x => image[x] ||| ~~~read[x]) .setup) })) ∧
    (∀ (i : LineNo) (p : PageNo), j.stage = .program → j.head = some i → j.members = [] → j.page = some p →
      s.lines[i].state = .committing → s.lines[i].page = some p → s.waitLaw →
      (read = image → exec .readPageComplete s = .next (evaluateHeldRead cp.target.bank (endJob (retakeHeldWrite
        { s with
          op := none, lines := s.lines.set i Line.cleared, ageList := s.ageList.erase i,
          commitQueue := s.commitQueue.erase i, port := s.portAfter (· == i),
          portAnswer := s.answerAfter (· == i) (.okay []) })))) ∧
      (∀ (cause : LoopFailure) (failed : LineNo → Bool), failed = (fun k => k == i || s.cascaded p k) →
        (cause = .disturbed ∧ read ≠ image ∧ ∃ x : Fin 64, image[x] &&& ~~~read[x] ≠ 0#8) ∨
        (cause = .exhausted ∧ read ≠ image ∧ (∀ x : Fin 64, image[x] &&& ~~~read[x] = 0#8) ∧
          s.settings.pgmMax ≤ n) →
        ∃ u, exec .readPageComplete s = .next (evaluateHeldRead cp.target.bank (endJob u)) ∧
          u = { s with
            op := none, lines := u.lines, commitQueue := u.commitQueue, port := s.portAfter failed,
            portAnswer := s.answerAfter failed (.error .commitFail),
            log := s.log.append (.programFail p cause n ((List.finRange 8).filter (s.cascaded p)).length) } ∧
          s.linesFailed u failed))

/-- The blank check of an erase loop. Not BLANK and short of ERS_MAX pulses: another pulse, whatever the job. In a rewrite's journal
check: BLANK, and LOAD begins with the journal BLANK; ERS_MAX pulses gone, and the rewrite fails, step ERASE. A SCRUB's end, BLANK or
failed, ends the rewrite with the failure it stands for and the journal BLANK or SPENT. A target erased: the first page that is not FFh
throughout is programmed; with none, a rewrite retires its lines and closes, a recovery job reads the header. A rewrite's fallback erase
that leaves the journal BLANK ends the job. -/
def Obligations.EraseLoopDecides : Prop :=
  ∀ (s : State) (j : Job) (g : Target) (n : Nat) (jn : Journal), s.op = some (.blankCheck g) → s.job = some j →
    j.loop = some (.erase g n) → jn = journalFor j.sector →
    (¬ s.readsBlank g → n < s.settings.ersMax →
      exec .blankCheckComplete s = .next (evaluateHeldRead g.bank
        { s with job := some { j with loop := some (.erase g (n + 1)) }, op := some (.erasePulse g .setup) })) ∧
    (j.stage = .journalCheck → s.readsBlank g →
      exec .blankCheckComplete s = .next (evaluateHeldRead g.bank
        { s with
          journals := s.journals.set (journalBank jn) .blank,
          job := some { j with stage := .load 0, loop := none }, buffer := .assembling j.sector erasedImage,
          op := some (.readPage (.user (sectorPage j.sector 0))) })) ∧
    (j.stage = .journalCheck → j.members = [] → s.eraseFails g n → s.waitLaw →
      ∃ u, exec .blankCheckComplete s = .next (evaluateHeldRead g.bank (endJob u)) ∧
        s.rewriteFailed u j .erase s.journals) ∧
    (∀ (step : FailedStep) (fault : FaultStep), j.stage = .scrub → j.failedStep = some step → s.waitLaw →
      (step = .copy ∧ fault = .copy ∨ step = .header ∧ fault = .header ∨ step = .copyDone ∧ fault = .copyDone) →
      (s.readsBlank g → ∃ u, exec .blankCheckComplete s = .next (evaluateHeldRead g.bank (endJob u)) ∧
        s.rewriteFailed u j fault (s.journals.set (journalBank jn) .blank)) ∧
      (s.eraseFails g n → ∃ u, exec .blankCheckComplete s = .next (evaluateHeldRead g.bank (endJob u)) ∧
        s.rewriteFailed u j fault (s.journals.set (journalBank jn) .spent))) ∧
    (∀ sec img, j.stage = .targetErase → s.readsBlank g → s.buffer = .loaded sec img →
      (∀ m, isNextPage img 0 m → exec .blankCheckComplete s = .next (evaluateHeldRead g.bank
        { s with
          job := some { j with
            stage := .targetProgram m
            loop := some (.program (.user (sectorPage j.sector m)) img[m] img[m] 1) },
          op := some (.programPulse (.user (sectorPage j.sector m)) img[m] .setup) })) ∧
      (noPageLeft img 0 →
        (∀ marked, j.kind = .rewrite → j.headerImage = some marked → s.waitLaw →
          ∃ u, exec .blankCheckComplete s = .next (evaluateHeldRead g.bank u) ∧ s.retiredAndClosing u j marked) ∧
        (j.kind ≠ .rewrite → exec .blankCheckComplete s = .next (evaluateHeldRead g.bank
          { s with job := some { j with stage := .close, loop := none },
                   op := some (.readPage (headerPage jn)) })))) ∧
    (j.stage = .closeErase → j.kind = .rewrite → s.readsBlank g →
      exec .blankCheckComplete s = .next (evaluateHeldRead g.bank
        (endJob { s with journals := s.journals.set (journalBank jn) .blank })))

/-! ## The rewrite -/

/-- LOAD reads the sector's pages in order into the buffer. When the last has been read, MERGE: every SEALED line of the sector leaves
the queue, becomes COMMITTING and a member; the buffer is LOADED with the image read, the staged bytes of the head and then of the
absorbed lines laid over it, the newest last; the copy check is the image's sum. Then COPY begins, the journal SPENT: the first page that
is not FFh throughout goes into its copy page; with none, the header image into page 0. -/
def Obligations.MergeAbsorbsTheSector : Prop :=
  ∀ (s : State) (j : Job) (sec : SectorNo) (img : Image), s.job = some j → j.loop = none → s.buffer = .assembling sec img →
    (∀ (k : Fin 16) (h : k.val + 1 < 16), s.op = some (.readPage (.user (sectorPage j.sector k))) → j.stage = .load k →
      exec .readPageComplete s = .next (evaluateHeldRead (bankOf j.sector)
        { s with
          job := some { j with stage := .load ⟨k.val + 1, h⟩ },
          buffer := .assembling sec (img.set k (readCells s.cells (.user (sectorPage j.sector k)))),
          op := some (.readPage (.user (sectorPage j.sector ⟨k.val + 1, h⟩))) })) ∧
    ∀ (i : LineNo) (base : Image), s.linesLaw → s.op = some (.readPage (.user (sectorPage j.sector 15))) →
      j.stage = .load 15 → j.head = some i → j.members = [] → s.lines[i].state = .committing →
      (∀ p ∈ s.lines[i].page, sectorOf p = j.sector) →
      base = img.set 15 (readCells s.cells (.user (sectorPage j.sector 15))) →
      ∃ (v : State) (image : Image) (absorbed : List LineNo) (j' : Job),
        absorbed = s.commitQueue.filter (fun k => s.lines[k].page.any fun p => sectorOf p == j.sector) ∧
        v = { s with
          lines := v.lines, commitQueue := s.commitQueue.filter (fun k => !absorbed.contains k),
          buffer := .loaded j.sector image, journals := s.journals.set (journalBank (journalFor j.sector)) .spent } ∧
        (∀ k : LineNo, v.lines[k] =
          if k ∈ absorbed then { s.lines[k] with state := .committing } else s.lines[k]) ∧
        j' = { j with members := absorbed, copyCheck := some (imageSum image) } ∧
        (∀ m, isNextPage image 0 m → exec .readPageComplete s = .next (evaluateHeldRead (bankOf j.sector)
          { v with
            job := some { j' with
              stage := .copy m, loop := some (.program (copyPage (journalFor j.sector) m) image[m] image[m] 1) },
            op := some (.programPulse (copyPage (journalFor j.sector) m) image[m] .setup) })) ∧
        (noPageLeft image 0 → ∀ header, isHeaderImage header j.sector (imageSum image) →
          exec .readPageComplete s = .next (evaluateHeldRead (bankOf j.sector)
            { v with
              job := some { j' with
                stage := .header, headerImage := some header
                loop := some (.program (headerPage (journalFor j.sector)) header header 1) },
              op := some (.programPulse (headerPage (journalFor j.sector)) header .setup) })) ∧
        (∀ (older newer : List LineNo) (l : LineNo) (p : PageNo) (x : Fin 64) (b : Byte),
          i :: absorbed = older ++ l :: newer → s.lines[l].page = some p → s.lines[l].staged[x] = some b →
          (∀ n ∈ newer, s.lines[n].page ≠ some p ∨ s.lines[n].staged[x] = none) →
          image[pageInSector p][x] = b) ∧
        (∀ (k : Fin 16) (x : Fin 64),
          (∀ n ∈ i :: absorbed, s.lines[n].page ≠ some (sectorPage j.sector k) ∨ s.lines[n].staged[x] = none) →
          image[k][x] = base[k][x])

/-- The loops of a rewrite, each step taken when a verify reads its image. COPY: the next page that is not FFh throughout, and after the
last HEADER; HEADER is followed by the COPY_DONE mark; COPY_DONE makes the journal OPEN, naming the sector, and only then does
TARGET_ERASE begin. TARGET_PROGRAM: the next page that is not FFh throughout, and after the last RETIRE and CLOSE; the close mark makes
the journal SPENT and ends the job. -/
def Obligations.RewriteOpensTheJournalBeforeTheTarget : Prop :=
  ∀ (s : State) (j : Job) (jn : Journal) (cp : CellPage) (image latch : Page) (n : Nat), s.op = some (.readPage cp) →
    s.job = some j → j.kind = .rewrite → jn = journalFor j.sector → j.loop = some (.program cp image latch n) →
    readCells s.cells cp = image →
    (∀ (k : Fin 16) sec img, cp = copyPage jn k → j.stage = .copy k → s.buffer = .loaded sec img →
      (∀ m, isNextPage img (k.val + 1) m → exec .readPageComplete s = .next (evaluateHeldRead (journalBank jn)
        { s with
          journals := s.journals.set (journalBank jn) .spent,
          job := some { j with stage := .copy m, loop := some (.program (copyPage jn m) img[m] img[m] 1) },
          op := some (.programPulse (copyPage jn m) img[m] .setup) })) ∧
      (noPageLeft img (k.val + 1) → ∀ header check, j.copyCheck = some check → isHeaderImage header j.sector check →
        exec .readPageComplete s = .next (evaluateHeldRead (journalBank jn)
          { s with
            journals := s.journals.set (journalBank jn) .spent,
            job := some { j with
              stage := .header, headerImage := some header
              loop := some (.program (headerPage jn) header header 1) },
            op := some (.programPulse (headerPage jn) header .setup) }))) ∧
    (∀ header, cp = headerPage jn → j.stage = .header → j.headerImage = some header → exec .readPageComplete s = .next
      (evaluateHeldRead (journalBank jn)
        { s with
          job := some { j with
            stage := .copyDone, headerImage := some (header.set 4 0x00#8)
            loop := some (.program (headerPage jn) (header.set 4 0x00#8) (latchFor (header.set 4 0x00#8) header) 1) },
          op := some (.programPulse (headerPage jn) (latchFor (header.set 4 0x00#8) header) .setup) })) ∧
    (cp = headerPage jn → j.stage = .copyDone → exec .readPageComplete s = .next
      (evaluateHeldRead (journalBank jn)
        { s with
          journals := s.journals.set (journalBank jn) (.openFor j.sector),
          job := some { j with stage := .targetErase, loop := some (.erase (.user j.sector) 1) },
          op := some (.erasePulse (.user j.sector) .setup) })) ∧
    (∀ (k : Fin 16) sec img, cp = .user (sectorPage j.sector k) → j.stage = .targetProgram k →
      s.buffer = .loaded sec img →
      (∀ m, isNextPage img (k.val + 1) m → exec .readPageComplete s = .next (evaluateHeldRead (bankOf j.sector)
        { s with
          job := some { j with
            stage := .targetProgram m
            loop := some (.program (.user (sectorPage j.sector m)) img[m] img[m] 1) },
          op := some (.programPulse (.user (sectorPage j.sector m)) img[m] .setup) })) ∧
      (noPageLeft img (k.val + 1) → ∀ marked, j.headerImage = some marked → s.waitLaw →
        ∃ u, exec .readPageComplete s = .next (evaluateHeldRead (bankOf j.sector) u) ∧
          s.retiredAndClosing u j marked)) ∧
    (cp = headerPage jn → j.stage = .close → exec .readPageComplete s = .next
      (evaluateHeldRead (journalBank jn)
        (endJob { s with journals := s.journals.set (journalBank jn) .spent })))

/-- The failures of a rewrite. An erase loop: on the target, its sector is quarantined with ground COPY, its lines retire, a held write
is taken again (where its page is blocked, its refusal is the model's choice, log 27) and the waiting lines of the sector fail; after
the close mark, the fallback erase of the journal, the same with ground CELLS, its lines having retired before. A program loop: in COPY
and HEADER the rewrite fails with its target untouched and the journal SPENT; in COPY_DONE the journal is scrubbed first; in
TARGET_PROGRAM the sector is quarantined, step PROGRAM; the close mark is followed by the fallback erase. -/
def Obligations.RewriteFailureQuarantinesTheSector : Prop :=
  ∀ (s : State) (j : Job) (jn : Journal) (n : Nat), s.job = some j → j.kind = .rewrite → jn = journalFor j.sector →
    s.waitLaw →
    (∀ g : Target, s.op = some (.blankCheck g) → j.loop = some (.erase g n) → s.eraseFails g n →
      (j.stage = .targetErase → ∃ u, exec .blankCheckComplete s = .next (evaluateHeldRead g.bank (endJob u)) ∧
        s.targetFailed u j .erase n) ∧
      (j.stage = .closeErase → ∃ u, exec .blankCheckComplete s = .next (evaluateHeldRead g.bank (endJob u)) ∧
        u = { s with
          op := none, lines := u.lines, commitQueue := u.commitQueue,
          quarantine := s.quarantine.set (bankOf j.sector)
            { sector := some j.sector, ground := .cells, pending := .none },
          port := s.portAfter (s.cascadedIn j.sector),
          portAnswer := s.answerAfter (s.cascadedIn j.sector) (.error .commitFail),
          log := s.log.append (.quarantined j.sector .close n) } ∧
        s.linesFailed u (s.cascadedIn j.sector))) ∧
    (∀ (cp : CellPage) (image latch : Page) (cause : LoopFailure), s.op = some (.readPage cp) →
      j.loop = some (.program cp image latch n) → s.loopFails cp image n cause →
      (∀ k, j.stage = .copy k → ∃ u, exec .readPageComplete s = .next (evaluateHeldRead cp.target.bank (endJob u)) ∧
        s.rewriteFailed u j .copy (s.journals.set (journalBank jn) .spent)) ∧
      (j.stage = .header → ∃ u, exec .readPageComplete s = .next (evaluateHeldRead cp.target.bank (endJob u)) ∧
        s.rewriteFailed u j .header (s.journals.set (journalBank jn) .spent)) ∧
      (j.stage = .copyDone → exec .readPageComplete s = .next (evaluateHeldRead cp.target.bank
        { s with
          job := some { j with
            stage := .scrub, failedStep := some .copyDone, loop := some (.erase (.journal jn) 1) },
          op := some (.erasePulse (.journal jn) .setup) })) ∧
      (∀ k, j.stage = .targetProgram k →
        ∃ u, exec .readPageComplete s = .next (evaluateHeldRead cp.target.bank (endJob u)) ∧
          s.targetFailed u j .program n) ∧
      (j.stage = .close → exec .readPageComplete s = .next (evaluateHeldRead cp.target.bank
        { s with job := some { j with stage := .closeErase, loop := some (.erase (.journal jn) 1) },
                 op := some (.erasePulse (.journal jn) .setup) })))

/-! ## Job choice, recovery and the scan -/

/-- The job choice with no job running and STARTING ended takes bank 0's pending recovery job first, then bank 1's, then the head of the
commit queue; the command of each kind starts that job, and only where the choice takes it. With a job running, or with nothing to
take, it starts nothing. The scan's replay step starts REPLAY. -/
def Obligations.JobChoiceStartsTheJobs : Prop :=
  ∀ s : State,
    (s.nothingToStart → chooseJob s = s ∧ exec .commit s = .next s ∧ exec .restore s = .next s ∧
      exec .closeJob s = .next s) ∧
    (s.job = none → s.started →
      (∀ b sec, (s.quarantine.get b).sector = some sec → (b = .bank1 → s.quarantine.zero.pending = .none) →
        ((s.quarantine.get b).pending = .restore → (s.quarantine.get b).ground = .copy →
          exec .restore s = .next (chooseJob s) ∧ exec .commit s = .next s ∧ exec .closeJob s = .next s ∧
          chooseJob s =
            { s with
              job := some (freshJob .restore sec (.loadCopy 0)), buffer := .assembling sec erasedImage,
              op := some (.readPage (copyPage (journalFor sec) 0)) }) ∧
        ((s.quarantine.get b).pending = .restore → (s.quarantine.get b).ground = .cells →
          exec .restore s = .next (chooseJob s) ∧
          chooseJob s =
            { s with job := some (freshJob .restore sec .close),
                     op := some (.readPage (headerPage (journalFor sec))) }) ∧
        ((s.quarantine.get b).pending = .close →
          exec .closeJob s = .next (chooseJob s) ∧ exec .commit s = .next s ∧ exec .restore s = .next s ∧
          chooseJob s =
            { s with job := some (freshJob .close sec .close),
                     op := some (.readPage (headerPage (journalFor sec))) })) ∧
      (∀ i rest p, s.nothingPending → s.commitQueue = i :: rest → s.lines[i].page = some p →
        exec .commit s = .next (chooseJob s) ∧ exec .restore s = .next s ∧ exec .closeJob s = .next s ∧
        chooseJob s =
          { s with
            lines := s.lines.set i { s.lines[i] with state := .committing }, commitQueue := rest,
            job := some { freshJob .commit (sectorOf p) .preRead with head := some i, page := some p },
            op := some (.readPage (.user p)) })) ∧
    (∀ jn sec, s.frontEnd = .starting → s.job = none → s.op = none → s.scan = .replay jn →
      journalState s jn = .openFor sec → exec .replay s = .next
        { s with
          job := some (freshJob .replay sec (.loadCopy 0)), buffer := .assembling sec erasedImage,
          op := some (.readPage (copyPage (journalFor sec) 0)) })

/-- The recovery jobs and REPLAY. The copy pages are read in order into the ASSEMBLING buffer, the bytes that no read has filled standing
at FFh (log 16); with the last it is LOADED and TARGET_ERASE begins. The pages that are not FFh throughout are programmed in order, then
the close step reads the journal's header: with its mark at 00h it has succeeded, else the mark is programmed, and where that fails the
journal is erased. A close step that succeeds leaves the journal SPENT, or BLANK after the erase, and the record naming no sector, its
ground kept (log 19): RESTORE makes a RESTORED entry, CLOSE none, REPLAY a REPLAYED entry. A failed target step keeps the sector named
with ground COPY, a failed close step with ground CELLS, each with its entry. A REPLAY's end goes on from J0 to J1's replay, or ends
start-up. -/
def Obligations.RecoveryEndsLiftTheQuarantine : Prop :=
  (∀ (s : State) (j : Job) (jn : Journal), s.job = some j → jn = journalFor j.sector →
    j.kind = .restore ∨ j.kind = .close ∨ j.kind = .replay →
    (∀ (c : Instr) (after : JournalState),
      (c = .readPageComplete ∧ after = .spent ∧ j.stage = .close ∧ s.op = some (.readPage (headerPage jn)) ∧
        ((∃ image latch n, j.loop = some (.program (headerPage jn) image latch n) ∧
          readCells s.cells (headerPage jn) = image) ∨
        (j.loop = none ∧ (readCells s.cells (headerPage jn))[5] = 0x00#8))) ∨
      (c = .blankCheckComplete ∧ after = .blank ∧ j.stage = .closeErase ∧ s.op = some (.blankCheck (.journal jn)) ∧
        (∃ n, j.loop = some (.erase (.journal jn) n)) ∧ s.readsBlank (.journal jn)) →
      ∀ u : State,
        u = { s with
          journals := s.journals.set (journalBank jn) after,
          quarantine := s.quarantine.set (bankOf j.sector)
            { sector := none, ground := (s.quarantine.get (bankOf j.sector)).ground, pending := .none } } →
        (j.kind = .restore → exec c s = .next (evaluateHeldRead (journalBank jn)
          (endJob { u with log := s.log.append (.restored j.sector) }))) ∧
        (j.kind = .close → exec c s = .next (evaluateHeldRead (journalBank jn) (endJob u))) ∧
        (j.kind = .replay → exec c s = .next (evaluateHeldRead (journalBank jn)
          (endReplay { u with log := s.log.append (.replayed j.sector) })))) ∧
    (∀ (c : Instr) (step : FaultStep) (n : Nat),
      (c = .readPageComplete ∧ step = .program ∧ ∃ k image latch cause, j.stage = .targetProgram k ∧
        s.op = some (.readPage (.user (sectorPage j.sector k))) ∧
        j.loop = some (.program (.user (sectorPage j.sector k)) image latch n) ∧
        s.loopFails (.user (sectorPage j.sector k)) image n cause) ∨
      (c = .blankCheckComplete ∧ step = .erase ∧ j.stage = .targetErase ∧
        s.op = some (.blankCheck (.user j.sector)) ∧ j.loop = some (.erase (.user j.sector) n) ∧
        s.eraseFails (.user j.sector) n) →
      ∀ u : State,
        u = { s with
          quarantine := s.quarantine.set (bankOf j.sector)
            { sector := some j.sector, ground := .copy, pending := .none } } →
        (j.kind = .restore → exec c s = .next (evaluateHeldRead (bankOf j.sector)
          (endJob { u with log := s.log.append (.restoreFail j.sector) }))) ∧
        (j.kind = .replay → exec c s = .next (evaluateHeldRead (bankOf j.sector)
          (endReplay { u with log := s.log.append (.quarantined j.sector step n) })))) ∧
    (∀ n, j.stage = .closeErase → s.op = some (.blankCheck (.journal jn)) → j.loop = some (.erase (.journal jn) n) →
      s.eraseFails (.journal jn) n → ∀ u : State,
        u = { s with
          quarantine := s.quarantine.set (bankOf j.sector)
            { sector := some j.sector, ground := .cells, pending := .none } } →
        (j.kind = .restore ∨ j.kind = .close → exec .blankCheckComplete s = .next (evaluateHeldRead (journalBank jn)
          (endJob { u with log := s.log.append (.journalFail jn .close j.sector 0) }))) ∧
        (j.kind = .replay → exec .blankCheckComplete s = .next (evaluateHeldRead (journalBank jn)
          (endReplay { u with log := s.log.append (.quarantined j.sector .close n) })))) ∧
    (j.stage = .close → s.op = some (.readPage (headerPage jn)) →
      (∀ header marked latch : Page, j.loop = none → header = readCells s.cells (headerPage jn) → header[5] ≠ 0x00#8 →
        marked = header.set 5 0x00#8 → latch = Vector.ofFn (fun x => marked[x] ||| ~~~header[x]) →
        exec .readPageComplete s = .next (evaluateHeldRead (journalBank jn)
          { s with job := some { j with loop := some (.program (headerPage jn) marked latch 1) },
                   op := some (.programPulse (headerPage jn) latch .setup) })) ∧
      (∀ image latch n cause, j.loop = some (.program (headerPage jn) image latch n) →
        s.loopFails (headerPage jn) image n cause → exec .readPageComplete s = .next (evaluateHeldRead (journalBank jn)
          { s with job := some { j with stage := .closeErase, loop := some (.erase (.journal jn) 1) },
                   op := some (.erasePulse (.journal jn) .setup) }))) ∧
    (∀ (k : Fin 16) sec img, j.stage = .loadCopy k → j.loop = none → s.op = some (.readPage (copyPage jn k)) →
      s.buffer = .assembling sec img →
      (∀ h : k.val + 1 < 16, exec .readPageComplete s = .next (evaluateHeldRead (journalBank jn)
        { s with
          job := some { j with stage := .loadCopy ⟨k.val + 1, h⟩ },
          buffer := .assembling sec (img.set k (readCells s.cells (copyPage jn k))),
          op := some (.readPage (copyPage jn ⟨k.val + 1, h⟩)) })) ∧
      (k = 15 → exec .readPageComplete s = .next (evaluateHeldRead (journalBank jn)
        { s with
          job := some { j with stage := .targetErase, loop := some (.erase (.user j.sector) 1) },
          buffer := .loaded sec (img.set 15 (readCells s.cells (copyPage jn 15))),
          op := some (.erasePulse (.user j.sector) .setup) }))) ∧
    (∀ (k : Fin 16) sec img image latch n, j.stage = .targetProgram k →
      s.op = some (.readPage (.user (sectorPage j.sector k))) →
      j.loop = some (.program (.user (sectorPage j.sector k)) image latch n) →
      readCells s.cells (.user (sectorPage j.sector k)) = image → s.buffer = .loaded sec img →
      (∀ m, isNextPage img (k.val + 1) m → exec .readPageComplete s = .next (evaluateHeldRead (bankOf j.sector)
        { s with
          job := some { j with
            stage := .targetProgram m
            loop := some (.program (.user (sectorPage j.sector m)) img[m] img[m] 1) },
          op := some (.programPulse (.user (sectorPage j.sector m)) img[m] .setup) })) ∧
      (noPageLeft img (k.val + 1) → exec .readPageComplete s = .next (evaluateHeldRead (bankOf j.sector)
        { s with job := some { j with stage := .close, loop := none }, op := some (.readPage (headerPage jn)) })))) ∧
  (∀ (u v : State), v = { u with job := none, op := none, buffer := .empty } →
    (∀ sec, u.scan = .replay .j0 → u.journals.one = .openFor sec → endReplay u =
      { v with
        scan := .replay .j1, job := some (freshJob .replay sec (.loadCopy 0)),
        buffer := .assembling sec erasedImage, op := some (.readPage (copyPage (journalFor sec) 0)) }) ∧
    (u.scan = .replay .j1 ∨ (∀ sec, u.journals.one ≠ .openFor sec) → endReplay u = endStartup { v with scan := .ended }))

/-- The classification of a journal in STARTING: BLANK; SPENT with COPY_DONE not set or RESTORE_DONE set; CORRUPT, with an entry, when
the target is no sector of the other bank or the sum of the copy, read page by page, is not its check; OPEN when it is. The
classification of J1 follows that of J0; after it comes the REPLAY from J0 where it is OPEN, else that from J1 where it is OPEN, else
the end of start-up. -/
def Obligations.ScanClassifiesTheJournals : Prop :=
  ∀ (s : State) (jn : Journal), s.frontEnd = .starting → s.job = none →
    (s.op = some (.blankCheck (.journal jn)) → s.scan = .blankCheck jn →
      ((∀ o, o < 1088 → Memory.read s.cells (journalBase jn + o) = 0xFF#8) →
        exec .blankCheckComplete s = .next (evaluateHeldRead (journalBank jn)
          (scanAfterClassification
            { s with op := none, journals := s.journals.set (journalBank jn) .blank } jn))) ∧
      ((∃ o, o < 1088 ∧ Memory.read s.cells (journalBase jn + o) ≠ 0xFF#8) →
        exec .blankCheckComplete s = .next (evaluateHeldRead (journalBank jn)
          { s with scan := .headerRead jn, op := some (.readPage (headerPage jn)) }))) ∧
    (∀ header, s.op = some (.readPage (headerPage jn)) → s.scan = .headerRead jn →
      header = readCells s.cells (headerPage jn) →
      (header[4] = 0xFF#8 ∨ header[5] ≠ 0xFF#8 →
        exec .readPageComplete s = .next (evaluateHeldRead (journalBank jn)
          (scanAfterClassification
            { s with op := none, journals := s.journals.set (journalBank jn) .spent } jn))) ∧
      (header[4] ≠ 0xFF#8 → header[5] = 0xFF#8 →
        ((∀ sec : SectorNo, journalFor sec = jn → header[0].toNat + 256 * header[1].toNat ≠ sec.val) →
          exec .readPageComplete s = .next (evaluateHeldRead (journalBank jn)
            (scanAfterClassification
              { s with op := none, journals := s.journals.set (journalBank jn) .spent,
                       log := s.log.append (.journalCorrupt jn (header[1] ++ header[0])) } jn))) ∧
        (∀ sec : SectorNo, journalFor sec = jn → header[0].toNat + 256 * header[1].toNat = sec.val →
          exec .readPageComplete s = .next (evaluateHeldRead (journalBank jn)
            { s with scan := .copyRead jn sec (header[3] ++ header[2]) 0 0, op := some (.readPage (copyPage jn 0)) })))) ∧
    (∀ (k : Fin 16) sec check (sum : BitVec 16), s.op = some (.readPage (copyPage jn k)) →
      s.scan = .copyRead jn sec check k sum →
      (∀ h : k.val + 1 < 16, exec .readPageComplete s = .next (evaluateHeldRead (journalBank jn)
        { s with
          scan := .copyRead jn sec check ⟨k.val + 1, h⟩ (sum + pageSum (readCells s.cells (copyPage jn k))),
          op := some (.readPage (copyPage jn ⟨k.val + 1, h⟩)) })) ∧
      (k = 15 → sum + pageSum (readCells s.cells (copyPage jn 15)) = check →
        exec .readPageComplete s = .next (evaluateHeldRead (journalBank jn)
          (scanAfterClassification
            { s with op := none, journals := s.journals.set (journalBank jn) (.openFor sec) } jn))) ∧
      (k = 15 → sum + pageSum (readCells s.cells (copyPage jn 15)) ≠ check →
        exec .readPageComplete s = .next (evaluateHeldRead (journalBank jn)
          (scanAfterClassification
            { s with op := none, journals := s.journals.set (journalBank jn) .spent,
                     log := s.log.append (.journalCorrupt jn (BitVec.ofNat 16 sec.val)) } jn)))) ∧
    (jn = .j0 → scanAfterClassification s jn =
      { s with scan := .blankCheck .j1, op := some (.blankCheck (.journal .j1)) }) ∧
    (jn = .j1 →
      (∀ (src : Journal) sec, journalState s src = .openFor sec → (src = .j1 → ∀ t, s.journals.zero ≠ .openFor t) →
        scanAfterClassification s jn =
          { s with
            scan := .replay src, job := some (freshJob .replay sec (.loadCopy 0)),
            buffer := .assembling sec erasedImage, op := some (.readPage (copyPage (journalFor sec) 0)) }) ∧
      ((∀ (src : Journal) sec, journalState s src ≠ .openFor sec) →
        scanAfterClassification s jn = endStartup { s with scan := .ended }))

/-- The end of a job with nothing further to start: the record goes, the buffer is EMPTY, DRAINING becomes DRAINED, and in that same step
a deferred FLUSH is answered OK with the number of FAILED lines, the response beginning at once, or following the sync answer still being
sent. FLUSH_DEFERRED_RESPONSE answers it where the condition is met, and waits where a line is queued or a job runs. -/
def Obligations.FlushAnswerFollowsTheLastJob : Prop :=
  ∀ s : State,
    (∀ u : State,
      u = { s with job := none, op := none, buffer := .empty,
                   frontEnd := if s.frontEnd = .draining then .drained else s.frontEnd } →
      s.commitQueue = [] → s.nothingPending →
      (s.unit.deferred = none → endJob s = u) ∧
      ∀ (tag failed : Byte) (v : State), s.unit.deferred = some tag → s.link.state = .busy →
        failed = BitVec.ofNat 8 ((List.finRange 8).filter fun i : LineNo => s.lines[i].state == LineState.failed).length →
        v = { u with unit := { s.unit with deferred := none } } →
        (s.link.transmitter = .resting → endJob s = v.answering 0x00#8 tag [failed] false) ∧
        ∀ behind, s.link.transmitter = .syncAnswer behind → endJob s =
          { v with link := { s.link with
              transmitter := .syncAnswer (some { status := .ok, tag := tag, data := [failed], resets := false }) } }) ∧
    (∀ (tag failed : Byte) (v : State), s.unit.deferred = some tag → s.link.state = .busy →
      failed = BitVec.ofNat 8 ((List.finRange 8).filter fun i : LineNo => s.lines[i].state == LineState.failed).length →
      v = { s with unit := { s.unit with deferred := none } } → s.commitQueue = [] → s.job = none →
      (s.link.transmitter = .resting →
        exec .flushDeferredResponse s = .next (v.answering 0x00#8 tag [failed] false)) ∧
      ∀ behind, s.link.transmitter = .syncAnswer behind → exec .flushDeferredResponse s = .next
        { v with link := { s.link with
            transmitter := .syncAnswer (some { status := .ok, tag := tag, data := [failed], resets := false }) } }) ∧
    (s.commitQueue ≠ [] ∨ s.job.isSome = true ∨ s.unit.deferred = none →
      exec .flushDeferredResponse s = .next s)

/-! ## The service link -/

/-- Rate sync: in SYNC_WAIT a falling edge begins a candidate; a byte 55h with a stop bit at 1 whose fifth fall came 8 µs to 832 µs after
its first is accepted, its rate kept and the sync answer sent; any other, and a candidate that takes too long, is abandoned. When
the answer has been sent the transmitter rests, or begins the response built behind it. The model's choices: outside SYNC_WAIT, and in
reset, none of it happens (log 2); what is kept is the measured time in nanoseconds, the bit time being an eighth of it (log 13);
a candidate byte is judged whether or not its first edge was given as an event of its own (log 20); and the answer follows a byte that
STX still completes after a break, so that when it has been sent that byte has been too (log 26). -/
def Obligations.SyncByteSetsTheRate : Prop :=
  ∀ (s : State) (m : Nat) (byte : Byte) (stop : Bool),
    (s.link.state = .syncWait → s.frontEnd ≠ .inReset →
      exec .syncCandidateBegin s = .next { s with link := { s.link with candidate := true } } ∧
      exec .syncCandidateTimeout s = .next { s with link := { s.link with candidate := false } } ∧
      (8000 ≤ m → m ≤ 832000 → byte = 0x55#8 → stop = true → exec (.syncByte m byte stop) s = .next
        { s with link := { s.link with
            state := .idle, bitTime := some m, candidate := false, transmitter := .syncAnswer none } }) ∧
      (m < 8000 ∨ 832000 < m ∨ byte ≠ 0x55#8 ∨ stop = false → exec (.syncByte m byte stop) s = .next
        { s with link := { s.link with candidate := false } })) ∧
    (s.link.state ≠ .syncWait ∨ s.frontEnd = .inReset →
      exec .syncCandidateBegin s = .next s ∧ exec .syncCandidateTimeout s = .next s ∧
      exec (.syncByte m byte stop) s = .next s) ∧
    (s.link.transmitter = .syncAnswer none → exec .syncAnswerSent s = .next
      { s with link := { s.link with transmitter := .resting, completing := none } }) ∧
    (∀ r, s.link.transmitter = .syncAnswer (some r) → exec .syncAnswerSent s = .next
      { s with link := { s.link with
          transmitter := .response (responseBytes r (flagsByte s)) r.resets, overrunFlag := false,
          framingFlag := false, completing := none } }) ∧
    (∀ bytes resets, s.link.transmitter = .resting ∨ s.link.transmitter = .response bytes resets →
      exec .syncAnswerSent s = .next s)

/-- A byte on the wire is a start bit at 0, eight data bits, the least significant first, and a stop bit at 1; the receiver takes exactly
that. Outside SYNC_WAIT, with the quiet wait off, a frame's first start bit begins it (a byte with no start bit of its own begins it
itself, log 25). Each byte joins the frame. The last of LEN + 4 completes it, and so does a LEN above 12, which turns the quiet wait on:
in RECEIVING it goes to the command unit, which executes it in that step or, where a break comes next, holds it (the model's form,
log 11), the link BUSY; in BUSY it is buffered. While the buffered frame is held a new frame is an overrun: its bytes are counted by
its LEN, none is kept, and at its end it is gone. A gap drops the frame in progress. In SYNC_WAIT, in the quiet wait and in reset
bytes are ignored (reset: log 2). -/
def Obligations.BytesJoinTheFrame : Prop :=
  (∀ c : Byte, wireBits c = [false, c.getLsbD 0, c.getLsbD 1, c.getLsbD 2, c.getLsbD 3, c.getLsbD 4, c.getLsbD 5,
      c.getLsbD 6, c.getLsbD 7, true] ∧ receivedByte (wireBits c) = some c ∧
    ∀ samples, receivedByte samples = some c → samples = wireBits c) ∧
  ∀ (s : State) (b : Byte),
    (¬ s.linkReceives → exec (.byteReceived b) s = .next s ∧ exec .gap s = .next s) ∧
    (s.linkReceives →
      (s.link.frame = none → s.link.buffered = none → exec (.byteReceived b) s = .next
        { s with link := { s.link with
            frame := some (.keeping [b]), state := if s.link.state = .idle then .receiving else s.link.state } }) ∧
      (s.link.frame = some (.keeping []) → exec (.byteReceived b) s = .next
        { s with link := { s.link with frame := some (.keeping [b]) } }) ∧
      (∀ cmd, s.link.frame = some (.keeping [cmd]) → exec (.byteReceived b) s = .next
        { s with link := { s.link with frame := some (.keeping [cmd, b]) } }) ∧
      (∀ cmd tag, s.link.frame = some (.keeping [cmd, tag]) →
        (b.toNat ≤ 12 → exec (.byteReceived b) s = .next
          { s with link := { s.link with frame := some (.keeping [cmd, tag, b]) } }) ∧
        (12 < b.toNat →
          (s.link.state = .receiving → exec (.byteReceived b) s = .next
            (({ s with link := { s.link with frame := none, state := .busy, quietWait := true } }).handedOver
              (.lengthFault cmd tag b))) ∧
          (s.link.state = .busy → exec (.byteReceived b) s = .next
            { s with link := { s.link with
                frame := none, quietWait := true, buffered := some (.lengthFault cmd tag b) } }))) ∧
      (∀ cmd tag len args, s.link.frame = some (.keeping ([cmd, tag, len] ++ args)) → args.length < len.toNat →
        exec (.byteReceived b) s = .next
          { s with link := { s.link with frame := some (.keeping ([cmd, tag, len] ++ args ++ [b])) } }) ∧
      (∀ cmd tag len args, s.link.frame = some (.keeping ([cmd, tag, len] ++ args)) → args.length = len.toNat →
        (s.link.state = .receiving → exec (.byteReceived b) s = .next
          (({ s with link := { s.link with frame := none, state := .busy } }).handedOver (.whole cmd tag len args b))) ∧
        (s.link.state = .busy → exec (.byteReceived b) s = .next
          { s with link := { s.link with frame := none, buffered := some (.whole cmd tag len args b) } })) ∧
      (s.link.frame = none → s.link.buffered.isSome = true → exec (.byteReceived b) s = .next
        { s with link := { s.link with frame := some (.overrun 1 none), overrunFlag := true } }) ∧
      (∀ ended : State, ended = { s with link := { s.link with
          frame := none, state := if s.link.state = .receiving then .idle else s.link.state } } →
        (∀ n, n < 2 → s.link.frame = some (.overrun n none) → exec (.byteReceived b) s = .next
          { s with link := { s.link with frame := some (.overrun (n + 1) none) } }) ∧
        (s.link.frame = some (.overrun 2 none) →
          (b.toNat ≤ 12 → exec (.byteReceived b) s = .next
            { s with link := { s.link with frame := some (.overrun 3 (some b)) } }) ∧
          (12 < b.toNat → exec (.byteReceived b) s = .next
            { ended with link := { ended.link with quietWait := true } })) ∧
        (∀ (n : Nat) (len : Byte), 3 ≤ n → len.toNat ≤ 12 → s.link.frame = some (.overrun n (some len)) →
          (n + 1 < len.toNat + 4 → exec (.byteReceived b) s = .next
            { s with link := { s.link with frame := some (.overrun (n + 1) (some len)) } }) ∧
          (n + 1 = len.toNat + 4 → exec (.byteReceived b) s = .next ended)) ∧
        (s.link.frame.isSome = true → exec .gap s = .next ended)) ∧
      (s.link.frame = none → exec .gap s = .next s))

/-- A framing error discards the frame in progress, sets FRAMING and turns the quiet wait on; in the quiet wait it sets nothing, and in
SYNC_WAIT and in reset there is none (log 2). The quiet wait ends. A break outside SYNC_WAIT discards frames and deferral, keeps the
flags and enters SYNC_WAIT; of a response one byte is completed on STX and no more is sent (which byte: a free value, log 26), and
RESET_PART's reset is then due (log 14); a sync answer on STX is completed (DEDUCED, log 22), and one that waits behind a byte is not
begun (log 26). In SYNC_WAIT a break abandons a candidate. A request executed in SYNC_WAIT sends and defers nothing and leaves the link
as it is, and RESET_PART's reset is due at once (log 14). A break while the command unit holds a request (log 11) falls after or before
its execution, which of the two a free value says; where the law of the link holds, the state after the break first and the execution
second is the state after the other order but for OVERRUN, FRAMING and the byte on STX, which are as the held request found them, and for
the count of free values, the order's own alone. -/
def Obligations.LinkFaultsAreRecovered : Prop :=
  (∀ s : State,
    (s.linkReceives → exec .framingError s = .next
      { s with link := { s.link with
          frame := none, framingFlag := true, quietWait := true,
          state := if s.link.state = .receiving then .idle else s.link.state } }) ∧
    (¬ s.linkReceives → exec .framingError s = .next s) ∧
    (exec .quietWaitEnd s = .next { s with link := { s.link with quietWait := false } }) ∧
    (∀ l : Link, s.link.state ≠ .syncWait → s.unit.request = none →
      l = { s.link with
            state := .syncWait, bitTime := none, candidate := false, frame := none, buffered := none, quietWait := false } →
      (s.link.transmitter = .resting →
        exec .breakRecognised s = .next { s with link := l, unit := { s.unit with deferred := none } }) ∧
      (∀ behind, s.link.transmitter = .syncAnswer behind → exec .breakRecognised s = .next
        { s with
          link := { l with transmitter := if s.link.completing = none then .syncAnswer none else .resting },
          unit := { s.unit with deferred := none, resetDue := s.unit.resetDue || behind.any (·.resets) } }) ∧
      (∀ bytes resets, s.link.transmitter = .response bytes resets → bytes ≠ [] →
        ∃ b ∈ bytes, ∃ t, exec .breakRecognised s = .next t ∧ stxLevels t = wireBits b ∧
          t = { s with
            link := { l with transmitter := .resting, completing := some b },
            unit := { s.unit with deferred := none, resetDue := s.unit.resetDue || resets },
            freeIndex := s.freeIndex + 1 })) ∧
    (s.link.state = .syncWait → s.frontEnd ≠ .inReset → s.unit.request = none → exec .breakRecognised s = .next
      { s with link := { s.link with candidate := false } }) ∧
    (∀ (f : Frame) (u : State), s.unit.request = some f →
      u = { s with unit := { s.unit with request := none }, freeIndex := s.freeIndex + 1 } →
      ∃ executed broken : State, exec .breakRecognised (executeFrame u f) = .next executed ∧
        exec .breakRecognised u = .next broken ∧
        (exec .breakRecognised s = .next executed ∨ exec .breakRecognised s = .next (executeFrame broken f)) ∧
        (s.linkLaw → executeFrame broken f =
          { executed with
            link := { executed.link with
              overrunFlag := s.link.overrunFlag, framingFlag := s.link.framingFlag, completing := s.link.completing },
            freeIndex := s.freeIndex + 1 }))) ∧
  (∀ (u : State) (f : Frame), u.link.state = .syncWait →
    (executeFrame u f).link = u.link ∧ (executeFrame u f).unit.deferred = u.unit.deferred) ∧
  (∀ (u : State) (tag check : Byte), u.link.state = .syncWait → u.frontEnd ≠ .starting →
    0x7F#8 + tag + 0#8 + check = 0#8 →
    executeFrame u (.whole 0x7F#8 tag 0#8 [] check) = { u with unit := { u.unit with resetDue := true } })

/-- OVERRUN stands for a frame's first start bit (log 12): with no buffered frame it begins a frame that is kept, an IDLE link becoming
RECEIVING; while the buffered frame is held it begins an overrun frame, which is a frame in progress (log 23), and sets OVERRUN. With a
frame in progress, or where nothing is received, it changes nothing (log 2). When a response has been sent, RESET_PART's makes the
reset due (log 14); otherwise the buffered frame goes to the command unit, which executes it in that step or, where a break comes next,
holds it (the model's form, log 11), the link BUSY; with none the link is RECEIVING with a frame in progress and IDLE without. With no
response being sent, RESPONSE_SENT is the end of the byte that STX completes after a break (the model's choice, log 26). -/
def Obligations.OverrunAndHandOver : Prop :=
  ∀ s : State,
    (s.linkReceives → s.link.frame = none → s.link.buffered = none → exec .overrun s = .next
      { s with link := { s.link with
          frame := some (.keeping []), state := if s.link.state = .idle then .receiving else s.link.state } }) ∧
    (s.linkReceives → s.link.frame = none → s.link.buffered.isSome = true → exec .overrun s = .next
      { s with link := { s.link with frame := some (.overrun 0 none), overrunFlag := true } }) ∧
    (¬ s.linkReceives ∨ s.link.frame.isSome = true → exec .overrun s = .next s) ∧
    (∀ bytes, s.link.transmitter = .response bytes true → exec .responseSent s = .next
      { s with link := { s.link with transmitter := .resting }, unit := { s.unit with resetDue := true } }) ∧
    (∀ bytes, s.link.transmitter = .response bytes false →
      (∀ f, s.link.buffered = some f → exec .responseSent s = .next
        (({ s with link := { s.link with transmitter := .resting, buffered := none, state := .busy } }).handedOver f)) ∧
      (s.link.buffered = none → exec .responseSent s = .next
        { s with link := { s.link with
            transmitter := .resting, state := if s.link.frame.isSome then .receiving else .idle } })) ∧
    (∀ r, s.link.transmitter = .resting ∨ s.link.transmitter = .syncAnswer r →
      exec .responseSent s = .next { s with link := { s.link with completing := none } })

/-- Frames that fail validation change nothing but the link: LEN above 12 is answered BAD_LENGTH and turns the quiet wait on; an unknown
CMD is answered BAD_COMMAND; a sum of bytes other than 0 is answered BAD_CHECK, before any other check; a LEN other than the command's
is answered BAD_LENGTH. -/
def Obligations.FaultyFramesAreAnswered : Prop :=
  ∀ (s : State) (cmd tag len check : Byte) (args : List Byte),
    (s.linkReady → 12 < len.toNat → exec (.lengthFaultFrame cmd tag len) s = .next
      (({ s with link := { s.link with quietWait := true } }).answering 0x03#8 tag [] false)) ∧
    (s.linkReady → WellFormed (.badCommand cmd tag args) = true →
      exec (.badCommand cmd tag args) s = .next (s.answering 0x02#8 tag [] false)) ∧
    (∀ bytes, s.pending.head? ≠ some .breakRecognised → s.link.transmitter = .response bytes false →
      (s.link.buffered = some (.lengthFault cmd tag len) → exec .responseSent s = .next
        (({ s with link := { s.link with buffered := none } }).answering 0x03#8 tag [] false)) ∧
      (s.link.buffered = some (.whole cmd tag len args check) →
        (cmd + tag + len + args.foldl (· + ·) 0#8 + check ≠ 0#8 → exec .responseSent s = .next
          (({ s with link := { s.link with buffered := none } }).answering 0x01#8 tag [] false)) ∧
        (cmd + tag + len + args.foldl (· + ·) 0#8 + check = 0#8 →
          (requestLength cmd = none → exec .responseSent s = .next
            (({ s with link := { s.link with buffered := none } }).answering 0x02#8 tag [] false)) ∧
          (∀ n, requestLength cmd = some n → len.toNat ≠ n → exec .responseSent s = .next
            (({ s with link := { s.link with buffered := none } }).answering 0x03#8 tag [] false)))))

/-! ## The service commands -/

/-- IDENT returns the identity block and changes no state but the link's, in every front-end state. -/
def Obligations.IdentReturnsTheIdentityBlock : Prop :=
  ∀ (s : State) (tag : Byte), s.linkReady →
    exec (.ident tag) s = .next
      (s.answering 0x00#8 tag
        [0xA1#8, 0x25#8, 0x01#8, BitVec.ofNat 8 (4096 % 256), BitVec.ofNat 8 (4096 / 256), 16#8, 8#8, 16#8] false)

/-- STATUS, GET_REGION and GET_SETTINGS return what stands, byte by byte as section 11.6 lays the bytes out, in every front-end state;
GET_REGION of an entry above 7 is RANGE. -/
def Obligations.ReadingCommandsReturnWhatStands : Prop :=
  ∀ (s : State) (tag : Byte), s.linkReady →
    (∀ (state job cause : Byte) (sector pending : Bank → Byte),
      (s.frontEnd, state) ∈ [(FrontEnd.starting, 0#8), (.ready, 1#8), (.draining, 2#8), (.drained, 3#8)] →
      (s.job.map Job.kind, job) ∈ [(none, 0#8), (some JobKind.commit, 1#8), (some .rewrite, 2#8), (some .restore, 3#8),
        (some .close, 4#8), (some .replay, 5#8)] →
      (s.resetCause, cause) ∈ [(ResetCause.powerOn, 0#8), (.resetPin, 1#8), (.linkCommand, 2#8)] →
      (∀ b, ((s.quarantine.get b).sector = none ∧ (s.quarantine.get b).pending = .none ∧
          sector b = 0#8 ∧ pending b = 0#8) ∨
        ∃ sec, (s.quarantine.get b).sector = some sec ∧ sector b = BitVec.ofNat 8 sec.val ∧
          ((s.quarantine.get b).pending, pending b) ∈
            [(PendingJob.none, 0x80#8), (.restore, 0x81#8), (.close, 0x82#8)]) →
      exec (.status tag) s = .next (s.answering 0x00#8 tag
        ([state, job] ++
          ([LineState.free, .open, .sealed, .committing, .failed].map fun st =>
            BitVec.ofNat 8 ((List.finRange 8).filter fun i : LineNo => s.lines[i].state == st).length) ++
          [BitVec.ofNat 8 s.commitQueue.length, sector .bank0, pending .bank0, sector .bank1, pending .bank1,
           BitVec.ofNat 8 s.log.entries.length, BitVec.ofNat 8 s.log.dropped, cause, if s.pwarn then 1#8 else 0#8])
        false)) ∧
    (∀ (n : Fin 8) (kind : Byte),
      (s.regions[n].kind, kind) ∈ [(AccessKind.buffered, 0#8), (.through, 1#8), (.readOnly, 2#8), (.noAccess, 3#8)] →
      exec (.getRegion tag (BitVec.ofNat 8 n.val)) s = .next
        (s.answering 0x00#8 tag
          [if s.regions[n].valid then 1#8 else 0#8,
           BitVec.ofNat 8 (s.regions[n].base.val % 256), BitVec.ofNat 8 (s.regions[n].base.val / 256),
           BitVec.ofNat 8 (s.regions[n].limit.val % 256), BitVec.ofNat 8 (s.regions[n].limit.val / 256),
           kind, BitVec.ofNat 8 (s.regions[n].delay.getD 0)] false)) ∧
    (∀ n : Byte, 8 ≤ n.toNat → exec (.getRegion tag n) s = .next (s.answering 0x04#8 tag [] false)) ∧
    (∀ kind : Byte, (s.settings.defaultKind, kind) ∈
        [(AccessKind.buffered, 0#8), (.through, 1#8), (.readOnly, 2#8), (.noAccess, 3#8)] →
      exec (.getSettings tag) s = .next (s.answering 0x00#8 tag
        [BitVec.ofNat 8 s.settings.tick, BitVec.ofNat 8 s.settings.delay, BitVec.ofNat 8 s.settings.pgmPulse,
         BitVec.ofNat 8 s.settings.pgmMax, BitVec.ofNat 8 s.settings.ersPulse, BitVec.ofNat 8 s.settings.ersMax,
         BitVec.ofNat 8 s.settings.holdLimit, kind] false))

/-- SET_REGION replaces all five fields of one entry when its checks pass, and is otherwise RANGE and changes none. -/
def Obligations.SetRegionReplacesOrRefuses : Prop :=
  ∀ (s : State) (tag : Byte) (n valid kind delay : Byte) (base limit : BitVec 16), s.linkReady →
    (∀ (e : Fin 8) (r : Region), n = BitVec.ofNat 8 e.val → (valid = 0#8 ∧ r.valid = false ∨ valid = 1#8 ∧ r.valid = true) →
      r.base.val = base.toNat → r.limit.val = limit.toNat → r.base ≤ r.limit →
      (r.kind, kind) ∈ [(AccessKind.buffered, 0#8), (.through, 1#8), (.readOnly, 2#8), (.noAccess, 3#8)] →
      (delay = 0#8 ∧ r.delay = none ∨ 1 ≤ delay.toNat ∧ delay.toNat ≤ 15 ∧ r.delay = some delay.toNat) →
      exec (.setRegion tag n valid base limit kind delay) s = .next
        (({ s with regions := s.regions.set e r }).answering 0x00#8 tag [] false)) ∧
    (8 ≤ n.toNat ∨ 2 ≤ valid.toNat ∨ 4096 ≤ base.toNat ∨ 4096 ≤ limit.toNat ∨ limit.toNat < base.toNat ∨
        4 ≤ kind.toNat ∨ 16 ≤ delay.toNat →
      exec (.setRegion tag n valid base limit kind delay) s = .next (s.answering 0x04#8 tag [] false))

/-- SET_SETTING replaces the setting its field code names when the value lies in its range, and is otherwise RANGE. -/
def Obligations.SetSettingReplacesOrRefuses : Prop :=
  ∀ (s : State) (tag field value : Byte), s.linkReady →
    (∀ c : Settings,
      (field = 0#8 ∧ 1 ≤ value.toNat ∧ c = { s.settings with tick := value.toNat }) ∨
      (field = 1#8 ∧ 1 ≤ value.toNat ∧ value.toNat ≤ 15 ∧ c = { s.settings with delay := value.toNat }) ∨
      (field = 2#8 ∧ 5 ≤ value.toNat ∧ value.toNat ≤ 80 ∧ c = { s.settings with pgmPulse := value.toNat }) ∨
      (field = 3#8 ∧ 1 ≤ value.toNat ∧ value.toNat ≤ 8 ∧ c = { s.settings with pgmMax := value.toNat }) ∨
      (field = 4#8 ∧ 1 ≤ value.toNat ∧ value.toNat ≤ 16 ∧ c = { s.settings with ersPulse := value.toNat }) ∨
      (field = 5#8 ∧ 1 ≤ value.toNat ∧ value.toNat ≤ 15 ∧ c = { s.settings with ersMax := value.toNat }) ∨
      (field = 6#8 ∧ 1 ≤ value.toNat ∧ c = { s.settings with holdLimit := value.toNat }) ∨
      (∃ k, field = 7#8 ∧
        (k, value) ∈ [(AccessKind.buffered, 0#8), (.through, 1#8), (.readOnly, 2#8), (.noAccess, 3#8)] ∧
        c = { s.settings with defaultKind := k }) →
      exec (.setSetting tag field value) s = .next (({ s with settings := c }).answering 0x00#8 tag [] false)) ∧
    (8 ≤ field.toNat ∨ (field ≠ 7#8 ∧ value = 0#8) ∨ (field = 1#8 ∧ 15 < value.toNat) ∨
      (field = 2#8 ∧ (value.toNat < 5 ∨ 80 < value.toNat)) ∨ (field = 3#8 ∧ 8 < value.toNat) ∨
      (field = 4#8 ∧ 16 < value.toNat) ∨ (field = 5#8 ∧ 15 < value.toNat) ∨ (field = 7#8 ∧ 3 < value.toNat) →
      exec (.setSetting tag field value) s = .next (s.answering 0x04#8 tag [] false))

/-- FLUSH: a wait other than 0 or 1 is RANGE, STARTING is STATE. Otherwise every OPEN line is sealed in age-list order and the job choice
is made; wait 0 is answered OK; wait 1 is answered with the number of FAILED lines when the queue is empty and no job runs, and is
deferred, the link BUSY, while a line is queued or a job runs. -/
def Obligations.FlushSealsAndAnswers : Prop :=
  ∀ (s : State) (tag wait : Byte), s.linkReady → s.linesLaw →
    (2 ≤ wait.toNat → exec (.flush tag wait) s = .next (s.answering 0x04#8 tag [] false)) ∧
    (wait.toNat ≤ 1 → s.frontEnd = .starting → exec (.flush tag wait) s = .next (s.answering 0x05#8 tag [] false)) ∧
    (s.frontEnd ≠ .starting → ∃ u : State,
      u = { s with lines := u.lines, commitQueue := s.commitQueue ++ linesByAge s .open } ∧
      (∀ i : LineNo, u.lines[i] =
        if s.lines[i].state = .open then { s.lines[i] with state := .sealed } else s.lines[i]) ∧
      (wait = 0#8 → exec (.flush tag wait) s = .next ((chooseJob u).answering 0x00#8 tag [] false)) ∧
      (wait = 1#8 → (chooseJob u).commitQueue = [] → (chooseJob u).job = none → exec (.flush tag wait) s = .next
        ((chooseJob u).answering 0x00#8 tag
          [BitVec.ofNat 8 ((List.finRange 8).filter fun i : LineNo => s.lines[i].state == LineState.failed).length] false)) ∧
      (wait = 1#8 → (chooseJob u).commitQueue ≠ [] ∨ (chooseJob u).job.isSome = true → exec (.flush tag wait) s = .next
        { chooseJob u with link := { s.link with state := .busy }, unit := { s.unit with deferred := some tag } }))

/-- READ_FAULT returns the oldest entry as a fault record, sequence number, kind and fields byte by byte as section 11.6 lays them out, or
EMPTY, and removes nothing, in every front-end state. -/
def Obligations.ReadFaultReturnsTheOldestEntry : Prop :=
  ∀ (s : State) (tag : Byte), s.linkReady →
    (s.log.entries = [] → exec (.readFault tag) s = .next (s.answering 0x08#8 tag [] false)) ∧
    (∀ (e : FaultEntry) (rest : List FaultEntry) (fields : List Byte), s.log.entries = e :: rest →
      (∃ a d r direction reason, e.kind = .refused a d r ∧
        (d, direction) ∈ [(Direction.read, 0#8), (.write, 1#8)] ∧
        (r, reason) ∈ [(RefusedReason.align, 0#8), (.noAccess, 1#8), (.readOnly, 2#8), (.failedPage, 3#8),
          (.quarantine, 4#8), (.stageFull, 5#8), (.holdLimit, 6#8), (.starting, 7#8)] ∧
        fields = [1#8, BitVec.ofNat 8 (a.toNat % 256), BitVec.ofNat 8 (a.toNat / 256 % 256),
          BitVec.ofNat 8 (a.toNat / 65536), direction, reason]) ∨
      (∃ p c n k cause, e.kind = .programFail p c n k ∧
        (c, cause) ∈ [(LoopFailure.exhausted, 0#8), (.disturbed, 1#8)] ∧
        fields = [2#8, BitVec.ofNat 8 (p.val % 256), BitVec.ofNat 8 (p.val / 256), cause, BitVec.ofNat 8 n,
          BitVec.ofNat 8 k]) ∨
      (∃ j st sec k journal step, e.kind = .journalFail j st sec k ∧ (j, journal) ∈ [(Journal.j0, 0#8), (.j1, 1#8)] ∧
        (st, step) ∈ [(FaultStep.erase, 0#8), (.copy, 1#8), (.header, 2#8), (.copyDone, 3#8), (.close, 4#8),
          (.program, 5#8)] ∧
        fields = [3#8, journal, step, BitVec.ofNat 8 sec.val, BitVec.ofNat 8 k, 0#8]) ∨
      (∃ p j k journal, e.kind = .journalHeld p j k ∧ (j, journal) ∈ [(Journal.j0, 0#8), (.j1, 1#8)] ∧
        fields = [4#8, BitVec.ofNat 8 (p.val % 256), BitVec.ofNat 8 (p.val / 256), journal, BitVec.ofNat 8 k, 0#8]) ∨
      (∃ sec st n step, e.kind = .quarantined sec st n ∧
        (st, step) ∈ [(FaultStep.erase, 0#8), (.copy, 1#8), (.header, 2#8), (.copyDone, 3#8), (.close, 4#8),
          (.program, 5#8)] ∧
        fields = [5#8, BitVec.ofNat 8 sec.val, step, BitVec.ofNat 8 n, 0#8, 0#8]) ∨
      (∃ sec code, (e.kind, code) ∈ [(FaultKind.replayed sec, 6#8), (.restored sec, 7#8), (.restoreFail sec, 8#8)] ∧
        fields = [code, BitVec.ofNat 8 sec.val, 0#8, 0#8, 0#8, 0#8]) ∨
      (∃ j w journal, e.kind = .journalCorrupt j w ∧ (j, journal) ∈ [(Journal.j0, 0#8), (.j1, 1#8)] ∧
        fields = [9#8, journal, BitVec.ofNat 8 (w.toNat % 256), BitVec.ofNat 8 (w.toNat / 256), 0#8, 0#8]) →
      exec (.readFault tag) s = .next (s.answering 0x00#8 tag
        ([BitVec.ofNat 8 (e.seq.toNat % 256), BitVec.ofNat 8 (e.seq.toNat / 256)] ++ fields) false))

/-- ACK_FAULT removes the oldest entry when the number is its own, and clears the dropped count with clear flag 1 when it removes or when
the log is empty; STALE for another number, STATE for an empty log, RANGE for a clear flag above 1. ALERT then tells whether an entry is left. -/
def Obligations.AckFaultRemovesTheNamedEntry : Prop :=
  ∀ (s : State) (tag clear : Byte) (seq : BitVec 16), s.linkReady →
    (2 ≤ clear.toNat → exec (.ackFault tag seq clear) s = .next (s.answering 0x04#8 tag [] false)) ∧
    (clear.toNat ≤ 1 →
      (s.log.entries = [] → exec (.ackFault tag seq clear) s = .next
        (({ s with log := { s.log with dropped := if clear = 1#8 then 0 else s.log.dropped } }).answering
          0x05#8 tag [] false)) ∧
      (∀ e rest, s.log.entries = e :: rest →
        (e.seq = seq → exec (.ackFault tag seq clear) s = .next
          (({ s with log := { s.log with
              entries := rest, dropped := if clear = 1#8 then 0 else s.log.dropped } }).answering 0x00#8 tag [] false)) ∧
        (e.seq = seq → ∀ t, exec (.ackFault tag seq clear) s = .next t → (alertOutput t = true ↔ rest ≠ [])) ∧
        (e.seq ≠ seq → exec (.ackFault tag seq clear) s = .next (s.answering 0x06#8 tag [] false))))

/-- RETRY_PAGE in READY returns the FAILED lines of a page to the end of the queue in age-list order; DISCARD_PAGE frees them, and a
write held for a line is taken again in that step; the job choice follows. A page above 4095 is RANGE; a page with no FAILED line, a
quarantined sector for RETRY_PAGE, and the front-end states that do not accept are STATE. -/
def Obligations.RetryAndDiscardActOnFailedLines : Prop :=
  ∀ (s : State) (tag : Byte) (page : BitVec 16), s.linkReady → s.linesLaw →
    (4096 ≤ page.toNat → exec (.retryPage tag page) s = .next (s.answering 0x04#8 tag [] false) ∧
      exec (.discardPage tag page) s = .next (s.answering 0x04#8 tag [] false)) ∧
    (∀ p : PageNo, p.val = page.toNat →
      (s.frontEnd ≠ .ready ∨ (∀ i : LineNo, s.lines[i].state = .failed → s.lines[i].page ≠ some p) ∨
          (s.quarantine.get (bankOf (sectorOf p))).sector = some (sectorOf p) →
        exec (.retryPage tag page) s = .next (s.answering 0x05#8 tag [] false)) ∧
      (s.frontEnd = .starting ∨ (∀ i : LineNo, s.lines[i].state = .failed → s.lines[i].page ≠ some p) →
        exec (.discardPage tag page) s = .next (s.answering 0x05#8 tag [] false)) ∧
      ((∃ i : LineNo, s.lines[i].state = .failed ∧ s.lines[i].page = some p) →
        (s.frontEnd = .ready → (s.quarantine.get (bankOf (sectorOf p))).sector ≠ some (sectorOf p) →
          ∃ u : State, exec (.retryPage tag page) s = .next ((chooseJob u).answering 0x00#8 tag [] false) ∧
            u = { s with lines := u.lines, commitQueue := s.commitQueue ++
                    s.ageList.filter fun i => s.lines[i].state == .failed && s.lines[i].page == some p } ∧
            ∀ i : LineNo, u.lines[i] =
              if s.lines[i].state = .failed ∧ s.lines[i].page = some p then { s.lines[i] with state := .sealed }
              else s.lines[i]) ∧
        (s.frontEnd ≠ .starting →
          ∃ u : State,
            exec (.discardPage tag page) s = .next ((chooseJob (retakeHeldWrite u)).answering 0x00#8 tag [] false) ∧
            u = { s with lines := u.lines, ageList := s.ageList.filter fun i =>
                    !(s.lines[i].state == .failed && s.lines[i].page == some p) } ∧
            ∀ i : LineNo, u.lines[i] =
              if s.lines[i].state = .failed ∧ s.lines[i].page = some p then Line.cleared else s.lines[i])))

/-- RESTORE_SECTOR and DROP_JOURNAL set a bank's pending job, and the job choice is made: RANGE for another bank, STATE outside READY or
where the record names no sector, BUSY where a job is pending. RESET_PART is STATE in STARTING, and otherwise answers OK and changes
nothing yet. -/
def Obligations.RecoveryRequestsAndResetPart : Prop :=
  ∀ (s : State) (tag bank : Byte), s.linkReady →
    (2 ≤ bank.toNat → exec (.restoreSector tag bank) s = .next (s.answering 0x04#8 tag [] false) ∧
      exec (.dropJournal tag bank) s = .next (s.answering 0x04#8 tag [] false)) ∧
    (∀ b, (bank = 0#8 ∧ b = .bank0 ∨ bank = 1#8 ∧ b = .bank1) →
      (s.frontEnd ≠ .ready ∨ (s.quarantine.get b).sector = none →
        exec (.restoreSector tag bank) s = .next (s.answering 0x05#8 tag [] false) ∧
        exec (.dropJournal tag bank) s = .next (s.answering 0x05#8 tag [] false)) ∧
      (s.frontEnd = .ready → (s.quarantine.get b).sector.isSome = true →
        ((s.quarantine.get b).pending ≠ .none →
          exec (.restoreSector tag bank) s = .next (s.answering 0x07#8 tag [] false) ∧
          exec (.dropJournal tag bank) s = .next (s.answering 0x07#8 tag [] false)) ∧
        ((s.quarantine.get b).pending = .none →
          exec (.restoreSector tag bank) s = .next ((chooseJob
            { s with quarantine := s.quarantine.set b { s.quarantine.get b with pending := .restore } }).answering
              0x00#8 tag [] false) ∧
          exec (.dropJournal tag bank) s = .next ((chooseJob
            { s with quarantine := s.quarantine.set b { s.quarantine.get b with pending := .close } }).answering
              0x00#8 tag [] false)))) ∧
    (s.frontEnd = .starting → exec (.resetPart tag) s = .next (s.answering 0x05#8 tag [] false)) ∧
    (s.frontEnd ≠ .starting → exec (.resetPart tag) s = .next (s.answering 0x00#8 tag [] true))

/-! ## Regions, the fault log and what reads return -/

/-- The kind and the override of a page are those of the lowest-numbered entry that covers it; without one, the kind is DEFAULT_KIND and
the commit delay is DELAY. -/
def Obligations.LowestCoveringRegionDecides : Prop :=
  ∀ (s : State) (p : PageNo),
    (∀ n : Fin 8, s.regions[n].valid = true → s.regions[n].base ≤ p → p ≤ s.regions[n].limit →
      (∀ k : Fin 8, k < n → ¬(s.regions[k].valid = true ∧ s.regions[k].base ≤ p ∧ p ≤ s.regions[k].limit)) →
      kindOf s p = s.regions[n].kind ∧
      (∀ d, s.regions[n].delay = some d → delayOf s p = d) ∧
      (s.regions[n].delay = none → delayOf s p = s.settings.delay)) ∧
    ((∀ k : Fin 8, ¬(s.regions[k].valid = true ∧ s.regions[k].base ≤ p ∧ p ≤ s.regions[k].limit)) →
      kindOf s p = s.settings.defaultKind ∧ delayOf s p = s.settings.delay)

/-- An accepted write is what reads return: after the step that accepts it, each byte it covers reads as its lane's byte, and every
other byte of the window reads as before. -/
def Obligations.AcceptedWriteIsReadBack : Prop :=
  ∀ (s u : State) (t : Transaction), s.linesLaw → s.pagesLaw → s.portReady → s.nothingToStart →
    s.frontEnd = .ready → t.direction = .write → passesAlignment t = true →
    exec (.portTransaction t) s = .next u →
    u.portAnswer = some (.okay []) ∨ (∃ k i, u.port = .commitWait t k i) →
    ∀ (p : PageNo) (x : Fin 64), readByte u p x =
      if p = transactionPage t ∧ isCovered t x = true then (t.data >>> (8 * (x.val % 4))).setWidth 8
      else readByte s p x

/-- What keeps reads. Seals, ageing, drains, starts of jobs, hold expiries and link events change no byte that a read returns (a break
while the command unit holds a request runs that request as well, log 11). Nor does a completion of a job's cell operation, whichever way
it ends, where the layers stand as a run has them: of a COMMIT (fill, elision, retirement, failure, the start of a rewrite), of a
rewrite's journal check, LOAD, MERGE, COPY, HEADER, SCRUB and COPY_DONE, of its target steps with RETIRE and quarantine, and of its
CLOSE; and of a RESTORE's copy load, target steps and close step. Nor does a pulse: what it moves is covered by a filled line or by the
LOADED buffer, or is a journal that no read takes. Left out: a write held for a line, which a completion may let in, for it is an accepted
write; the close step and the end of a CLOSE job (R89, log 24); and REPLAY, for in STARTING no read is served. -/
def Obligations.OtherCommandsKeepReads : Prop :=
  (∀ (c : Instr) (s t : State), keepsReads c = true → (c = .breakRecognised → s.unit.request = none) → s.linesLaw →
    (∀ sec img, s.job = none → s.buffer ≠ .loaded sec img) → exec c s = .next t →
    ∀ (p : PageNo) (x : Fin 64), readByte t p x = readByte s p x) ∧
  (∀ (c : Instr) (s t : State) (j : Job), s.linesLaw → s.recordsLaw → s.holdsForLine = false → s.job = some j →
    exec c s = .next t →
    s.commitHandsOver c j ∨ s.loadHandsOver c j ∨ s.mergeHandsOver c j ∨ s.copyHandsOver c j ∨ s.journalOpens c j ∨
      s.copyLoadHandsOver c j ∨ s.targetHandsOver c j ∨ s.closeHandsOver c j →
    ∀ (p : PageNo) (x : Fin 64), readByte t p x = readByte s p x) ∧
  ∀ (left : PulseResidue) (s t : State), s.linesLaw → s.cellsCanonical → exec (.pulseExpiry left) s = .next t →
    s.pulseIsCovered → ∀ (p : PageNo) (x : Fin 64), readByte t p x = readByte s p x

/-! ## What every step keeps -/

/-- The state after reset has every law. -/
def Obligations.ResetHasEveryLaw : Prop :=
  State.reset.cellsCanonical ∧ State.reset.logLaw ∧ State.reset.tablesLaw ∧ State.reset.agesLaw ∧
  State.reset.linesLaw ∧ State.reset.jobLaw ∧ State.reset.pagesLaw ∧ State.reset.waitLaw ∧ State.reset.recordsLaw ∧
  State.reset.frontEndLaw ∧ State.reset.choiceLaw ∧ State.reset.linkLaw

/-- Every step keeps the cell array in its canonical form. -/
def Obligations.StepKeepsCellsCanonical : Prop :=
  ∀ s t : State, s.cellsCanonical → step s = .next t → t.cellsCanonical

/-- Every step keeps the law of the fault log. -/
def Obligations.StepKeepsTheLogLaw : Prop := ∀ s t : State, s.logLaw → step s = .next t → t.logLaw

/-- Every step keeps the settings and the region table in range, and no OPEN line's age passes 14. -/
def Obligations.StepKeepsTablesAndAges : Prop :=
  ∀ s t : State, s.tablesLaw ∧ s.agesLaw → step s = .next t → t.tablesLaw ∧ t.agesLaw

/-- Every step keeps the laws of the lines, of the job, of the pages and of the wait of a THROUGH write. -/
def Obligations.StepKeepsLinesJobAndPages : Prop :=
  ∀ s t : State, s.linesLaw ∧ s.jobLaw ∧ s.pagesLaw ∧ s.waitLaw → step s = .next t →
    t.linesLaw ∧ t.jobLaw ∧ t.pagesLaw ∧ t.waitLaw

/-- Every step keeps the law of the front-end state, with that of the lines. -/
def Obligations.StepKeepsTheFrontEndLaw : Prop :=
  ∀ s t : State, s.linesLaw ∧ s.frontEndLaw → step s = .next t → t.linesLaw ∧ t.frontEndLaw

/-- Every step keeps the law of the job choice, with that of the lines: nothing that could start is left waiting. -/
def Obligations.StepKeepsTheChoiceLaw : Prop :=
  ∀ s t : State, s.linesLaw ∧ s.choiceLaw → step s = .next t → t.linesLaw ∧ t.choiceLaw

/-- Every step keeps quarantine records and journals naming sectors of the right bank. -/
def Obligations.StepKeepsTheRecordsLaw : Prop := ∀ s t : State, s.recordsLaw → step s = .next t → t.recordsLaw

/-- Every step keeps the law of the link. -/
def Obligations.StepKeepsTheLinkLaw : Prop := ∀ s t : State, s.linkLaw → step s = .next t → t.linkLaw
end

