-- ==== Sys2Proof/Laws/State.lean ====
section
/-! SUPPORT. What the plain updates of the state leave in each field: one lemma per field and update, true by rfl. -/

namespace Sys2Proof.Machine

set_option Elab.async false

/-! ### updateLine -/

@[simp] theorem updateLine_pending (s : State) (i : LineNo) (f : Line → Line) : (updateLine s i f).pending = s.pending := rfl
@[simp] theorem updateLine_cells (s : State) (i : LineNo) (f : Line → Line) : (updateLine s i f).cells = s.cells := rfl
@[simp] theorem updateLine_op (s : State) (i : LineNo) (f : Line → Line) : (updateLine s i f).op = s.op := rfl
@[simp] theorem updateLine_job (s : State) (i : LineNo) (f : Line → Line) : (updateLine s i f).job = s.job := rfl
@[simp] theorem updateLine_buffer (s : State) (i : LineNo) (f : Line → Line) : (updateLine s i f).buffer = s.buffer := rfl
@[simp] theorem updateLine_journals (s : State) (i : LineNo) (f : Line → Line) : (updateLine s i f).journals = s.journals := rfl
@[simp] theorem updateLine_quarantine (s : State) (i : LineNo) (f : Line → Line) : (updateLine s i f).quarantine = s.quarantine := rfl
@[simp] theorem updateLine_lines (s : State) (i : LineNo) (f : Line → Line) : (updateLine s i f).lines = s.lines.set i (f s.lines[i]) := rfl
@[simp] theorem updateLine_ageList (s : State) (i : LineNo) (f : Line → Line) : (updateLine s i f).ageList = s.ageList := rfl
@[simp] theorem updateLine_commitQueue (s : State) (i : LineNo) (f : Line → Line) : (updateLine s i f).commitQueue = s.commitQueue := rfl
@[simp] theorem updateLine_ageTimer (s : State) (i : LineNo) (f : Line → Line) : (updateLine s i f).ageTimer = s.ageTimer := rfl
@[simp] theorem updateLine_regions (s : State) (i : LineNo) (f : Line → Line) : (updateLine s i f).regions = s.regions := rfl
@[simp] theorem updateLine_settings (s : State) (i : LineNo) (f : Line → Line) : (updateLine s i f).settings = s.settings := rfl
@[simp] theorem updateLine_port (s : State) (i : LineNo) (f : Line → Line) : (updateLine s i f).port = s.port := rfl
@[simp] theorem updateLine_portAnswer (s : State) (i : LineNo) (f : Line → Line) : (updateLine s i f).portAnswer = s.portAnswer := rfl
@[simp] theorem updateLine_bus (s : State) (i : LineNo) (f : Line → Line) : (updateLine s i f).bus = s.bus := rfl
@[simp] theorem updateLine_frontEnd (s : State) (i : LineNo) (f : Line → Line) : (updateLine s i f).frontEnd = s.frontEnd := rfl
@[simp] theorem updateLine_resetCause (s : State) (i : LineNo) (f : Line → Line) : (updateLine s i f).resetCause = s.resetCause := rfl
@[simp] theorem updateLine_pwarn (s : State) (i : LineNo) (f : Line → Line) : (updateLine s i f).pwarn = s.pwarn := rfl
@[simp] theorem updateLine_pwarnNoted (s : State) (i : LineNo) (f : Line → Line) : (updateLine s i f).pwarnNoted = s.pwarnNoted := rfl
@[simp] theorem updateLine_resetnLow (s : State) (i : LineNo) (f : Line → Line) : (updateLine s i f).resetnLow = s.resetnLow := rfl
@[simp] theorem updateLine_scan (s : State) (i : LineNo) (f : Line → Line) : (updateLine s i f).scan = s.scan := rfl
@[simp] theorem updateLine_log (s : State) (i : LineNo) (f : Line → Line) : (updateLine s i f).log = s.log := rfl
@[simp] theorem updateLine_link (s : State) (i : LineNo) (f : Line → Line) : (updateLine s i f).link = s.link := rfl
@[simp] theorem updateLine_unit (s : State) (i : LineNo) (f : Line → Line) : (updateLine s i f).unit = s.unit := rfl
@[simp] theorem updateLine_freeIndex (s : State) (i : LineNo) (f : Line → Line) : (updateLine s i f).freeIndex = s.freeIndex := rfl

/-! ### freeLine -/

@[simp] theorem freeLine_pending (s : State) (i : LineNo) : (freeLine s i).pending = s.pending := rfl
@[simp] theorem freeLine_cells (s : State) (i : LineNo) : (freeLine s i).cells = s.cells := rfl
@[simp] theorem freeLine_op (s : State) (i : LineNo) : (freeLine s i).op = s.op := rfl
@[simp] theorem freeLine_job (s : State) (i : LineNo) : (freeLine s i).job = s.job := rfl
@[simp] theorem freeLine_buffer (s : State) (i : LineNo) : (freeLine s i).buffer = s.buffer := rfl
@[simp] theorem freeLine_journals (s : State) (i : LineNo) : (freeLine s i).journals = s.journals := rfl
@[simp] theorem freeLine_quarantine (s : State) (i : LineNo) : (freeLine s i).quarantine = s.quarantine := rfl
@[simp] theorem freeLine_lines (s : State) (i : LineNo) : (freeLine s i).lines = s.lines.set i Line.cleared := rfl
@[simp] theorem freeLine_ageList (s : State) (i : LineNo) : (freeLine s i).ageList = s.ageList.erase i := rfl
@[simp] theorem freeLine_commitQueue (s : State) (i : LineNo) : (freeLine s i).commitQueue = s.commitQueue.erase i := rfl
@[simp] theorem freeLine_ageTimer (s : State) (i : LineNo) : (freeLine s i).ageTimer = s.ageTimer := rfl
@[simp] theorem freeLine_regions (s : State) (i : LineNo) : (freeLine s i).regions = s.regions := rfl
@[simp] theorem freeLine_settings (s : State) (i : LineNo) : (freeLine s i).settings = s.settings := rfl
@[simp] theorem freeLine_port (s : State) (i : LineNo) : (freeLine s i).port = s.port := rfl
@[simp] theorem freeLine_portAnswer (s : State) (i : LineNo) : (freeLine s i).portAnswer = s.portAnswer := rfl
@[simp] theorem freeLine_bus (s : State) (i : LineNo) : (freeLine s i).bus = s.bus := rfl
@[simp] theorem freeLine_frontEnd (s : State) (i : LineNo) : (freeLine s i).frontEnd = s.frontEnd := rfl
@[simp] theorem freeLine_resetCause (s : State) (i : LineNo) : (freeLine s i).resetCause = s.resetCause := rfl
@[simp] theorem freeLine_pwarn (s : State) (i : LineNo) : (freeLine s i).pwarn = s.pwarn := rfl
@[simp] theorem freeLine_pwarnNoted (s : State) (i : LineNo) : (freeLine s i).pwarnNoted = s.pwarnNoted := rfl
@[simp] theorem freeLine_resetnLow (s : State) (i : LineNo) : (freeLine s i).resetnLow = s.resetnLow := rfl
@[simp] theorem freeLine_scan (s : State) (i : LineNo) : (freeLine s i).scan = s.scan := rfl
@[simp] theorem freeLine_log (s : State) (i : LineNo) : (freeLine s i).log = s.log := rfl
@[simp] theorem freeLine_link (s : State) (i : LineNo) : (freeLine s i).link = s.link := rfl
@[simp] theorem freeLine_unit (s : State) (i : LineNo) : (freeLine s i).unit = s.unit := rfl
@[simp] theorem freeLine_freeIndex (s : State) (i : LineNo) : (freeLine s i).freeIndex = s.freeIndex := rfl

/-! ### failLine -/

@[simp] theorem failLine_pending (s : State) (i : LineNo) : (failLine s i).pending = s.pending := rfl
@[simp] theorem failLine_cells (s : State) (i : LineNo) : (failLine s i).cells = s.cells := rfl
@[simp] theorem failLine_op (s : State) (i : LineNo) : (failLine s i).op = s.op := rfl
@[simp] theorem failLine_job (s : State) (i : LineNo) : (failLine s i).job = s.job := rfl
@[simp] theorem failLine_buffer (s : State) (i : LineNo) : (failLine s i).buffer = s.buffer := rfl
@[simp] theorem failLine_journals (s : State) (i : LineNo) : (failLine s i).journals = s.journals := rfl
@[simp] theorem failLine_quarantine (s : State) (i : LineNo) : (failLine s i).quarantine = s.quarantine := rfl
@[simp] theorem failLine_lines (s : State) (i : LineNo) : (failLine s i).lines = s.lines.set i { s.lines[i] with state := .failed, through := false } := rfl
@[simp] theorem failLine_ageList (s : State) (i : LineNo) : (failLine s i).ageList = s.ageList := rfl
@[simp] theorem failLine_commitQueue (s : State) (i : LineNo) : (failLine s i).commitQueue = s.commitQueue.erase i := rfl
@[simp] theorem failLine_ageTimer (s : State) (i : LineNo) : (failLine s i).ageTimer = s.ageTimer := rfl
@[simp] theorem failLine_regions (s : State) (i : LineNo) : (failLine s i).regions = s.regions := rfl
@[simp] theorem failLine_settings (s : State) (i : LineNo) : (failLine s i).settings = s.settings := rfl
@[simp] theorem failLine_port (s : State) (i : LineNo) : (failLine s i).port = s.port := rfl
@[simp] theorem failLine_portAnswer (s : State) (i : LineNo) : (failLine s i).portAnswer = s.portAnswer := rfl
@[simp] theorem failLine_bus (s : State) (i : LineNo) : (failLine s i).bus = s.bus := rfl
@[simp] theorem failLine_frontEnd (s : State) (i : LineNo) : (failLine s i).frontEnd = s.frontEnd := rfl
@[simp] theorem failLine_resetCause (s : State) (i : LineNo) : (failLine s i).resetCause = s.resetCause := rfl
@[simp] theorem failLine_pwarn (s : State) (i : LineNo) : (failLine s i).pwarn = s.pwarn := rfl
@[simp] theorem failLine_pwarnNoted (s : State) (i : LineNo) : (failLine s i).pwarnNoted = s.pwarnNoted := rfl
@[simp] theorem failLine_resetnLow (s : State) (i : LineNo) : (failLine s i).resetnLow = s.resetnLow := rfl
@[simp] theorem failLine_scan (s : State) (i : LineNo) : (failLine s i).scan = s.scan := rfl
@[simp] theorem failLine_log (s : State) (i : LineNo) : (failLine s i).log = s.log := rfl
@[simp] theorem failLine_link (s : State) (i : LineNo) : (failLine s i).link = s.link := rfl
@[simp] theorem failLine_unit (s : State) (i : LineNo) : (failLine s i).unit = s.unit := rfl
@[simp] theorem failLine_freeIndex (s : State) (i : LineNo) : (failLine s i).freeIndex = s.freeIndex := rfl

/-! ### retryLine -/

@[simp] theorem retryLine_pending (s : State) (i : LineNo) : (retryLine s i).pending = s.pending := rfl
@[simp] theorem retryLine_cells (s : State) (i : LineNo) : (retryLine s i).cells = s.cells := rfl
@[simp] theorem retryLine_op (s : State) (i : LineNo) : (retryLine s i).op = s.op := rfl
@[simp] theorem retryLine_job (s : State) (i : LineNo) : (retryLine s i).job = s.job := rfl
@[simp] theorem retryLine_buffer (s : State) (i : LineNo) : (retryLine s i).buffer = s.buffer := rfl
@[simp] theorem retryLine_journals (s : State) (i : LineNo) : (retryLine s i).journals = s.journals := rfl
@[simp] theorem retryLine_quarantine (s : State) (i : LineNo) : (retryLine s i).quarantine = s.quarantine := rfl
@[simp] theorem retryLine_lines (s : State) (i : LineNo) : (retryLine s i).lines = s.lines.set i { s.lines[i] with state := .sealed } := rfl
@[simp] theorem retryLine_ageList (s : State) (i : LineNo) : (retryLine s i).ageList = s.ageList := rfl
@[simp] theorem retryLine_commitQueue (s : State) (i : LineNo) : (retryLine s i).commitQueue = s.commitQueue ++ [i] := rfl
@[simp] theorem retryLine_ageTimer (s : State) (i : LineNo) : (retryLine s i).ageTimer = s.ageTimer := rfl
@[simp] theorem retryLine_regions (s : State) (i : LineNo) : (retryLine s i).regions = s.regions := rfl
@[simp] theorem retryLine_settings (s : State) (i : LineNo) : (retryLine s i).settings = s.settings := rfl
@[simp] theorem retryLine_port (s : State) (i : LineNo) : (retryLine s i).port = s.port := rfl
@[simp] theorem retryLine_portAnswer (s : State) (i : LineNo) : (retryLine s i).portAnswer = s.portAnswer := rfl
@[simp] theorem retryLine_bus (s : State) (i : LineNo) : (retryLine s i).bus = s.bus := rfl
@[simp] theorem retryLine_frontEnd (s : State) (i : LineNo) : (retryLine s i).frontEnd = s.frontEnd := rfl
@[simp] theorem retryLine_resetCause (s : State) (i : LineNo) : (retryLine s i).resetCause = s.resetCause := rfl
@[simp] theorem retryLine_pwarn (s : State) (i : LineNo) : (retryLine s i).pwarn = s.pwarn := rfl
@[simp] theorem retryLine_pwarnNoted (s : State) (i : LineNo) : (retryLine s i).pwarnNoted = s.pwarnNoted := rfl
@[simp] theorem retryLine_resetnLow (s : State) (i : LineNo) : (retryLine s i).resetnLow = s.resetnLow := rfl
@[simp] theorem retryLine_scan (s : State) (i : LineNo) : (retryLine s i).scan = s.scan := rfl
@[simp] theorem retryLine_log (s : State) (i : LineNo) : (retryLine s i).log = s.log := rfl
@[simp] theorem retryLine_link (s : State) (i : LineNo) : (retryLine s i).link = s.link := rfl
@[simp] theorem retryLine_unit (s : State) (i : LineNo) : (retryLine s i).unit = s.unit := rfl
@[simp] theorem retryLine_freeIndex (s : State) (i : LineNo) : (retryLine s i).freeIndex = s.freeIndex := rfl

/-! ### takeLine -/

@[simp] theorem takeLine_pending (s : State) (i : LineNo) : (takeLine s i).pending = s.pending := rfl
@[simp] theorem takeLine_cells (s : State) (i : LineNo) : (takeLine s i).cells = s.cells := rfl
@[simp] theorem takeLine_op (s : State) (i : LineNo) : (takeLine s i).op = s.op := rfl
@[simp] theorem takeLine_job (s : State) (i : LineNo) : (takeLine s i).job = s.job := rfl
@[simp] theorem takeLine_buffer (s : State) (i : LineNo) : (takeLine s i).buffer = s.buffer := rfl
@[simp] theorem takeLine_journals (s : State) (i : LineNo) : (takeLine s i).journals = s.journals := rfl
@[simp] theorem takeLine_quarantine (s : State) (i : LineNo) : (takeLine s i).quarantine = s.quarantine := rfl
@[simp] theorem takeLine_lines (s : State) (i : LineNo) : (takeLine s i).lines = s.lines.set i { s.lines[i] with state := .committing } := rfl
@[simp] theorem takeLine_ageList (s : State) (i : LineNo) : (takeLine s i).ageList = s.ageList := rfl
@[simp] theorem takeLine_commitQueue (s : State) (i : LineNo) : (takeLine s i).commitQueue = s.commitQueue.erase i := rfl
@[simp] theorem takeLine_ageTimer (s : State) (i : LineNo) : (takeLine s i).ageTimer = s.ageTimer := rfl
@[simp] theorem takeLine_regions (s : State) (i : LineNo) : (takeLine s i).regions = s.regions := rfl
@[simp] theorem takeLine_settings (s : State) (i : LineNo) : (takeLine s i).settings = s.settings := rfl
@[simp] theorem takeLine_port (s : State) (i : LineNo) : (takeLine s i).port = s.port := rfl
@[simp] theorem takeLine_portAnswer (s : State) (i : LineNo) : (takeLine s i).portAnswer = s.portAnswer := rfl
@[simp] theorem takeLine_bus (s : State) (i : LineNo) : (takeLine s i).bus = s.bus := rfl
@[simp] theorem takeLine_frontEnd (s : State) (i : LineNo) : (takeLine s i).frontEnd = s.frontEnd := rfl
@[simp] theorem takeLine_resetCause (s : State) (i : LineNo) : (takeLine s i).resetCause = s.resetCause := rfl
@[simp] theorem takeLine_pwarn (s : State) (i : LineNo) : (takeLine s i).pwarn = s.pwarn := rfl
@[simp] theorem takeLine_pwarnNoted (s : State) (i : LineNo) : (takeLine s i).pwarnNoted = s.pwarnNoted := rfl
@[simp] theorem takeLine_resetnLow (s : State) (i : LineNo) : (takeLine s i).resetnLow = s.resetnLow := rfl
@[simp] theorem takeLine_scan (s : State) (i : LineNo) : (takeLine s i).scan = s.scan := rfl
@[simp] theorem takeLine_log (s : State) (i : LineNo) : (takeLine s i).log = s.log := rfl
@[simp] theorem takeLine_link (s : State) (i : LineNo) : (takeLine s i).link = s.link := rfl
@[simp] theorem takeLine_unit (s : State) (i : LineNo) : (takeLine s i).unit = s.unit := rfl
@[simp] theorem takeLine_freeIndex (s : State) (i : LineNo) : (takeLine s i).freeIndex = s.freeIndex := rfl

/-! ### appendFault -/

@[simp] theorem appendFault_pending (s : State) (k : FaultKind) : (appendFault s k).pending = s.pending := rfl
@[simp] theorem appendFault_cells (s : State) (k : FaultKind) : (appendFault s k).cells = s.cells := rfl
@[simp] theorem appendFault_op (s : State) (k : FaultKind) : (appendFault s k).op = s.op := rfl
@[simp] theorem appendFault_job (s : State) (k : FaultKind) : (appendFault s k).job = s.job := rfl
@[simp] theorem appendFault_buffer (s : State) (k : FaultKind) : (appendFault s k).buffer = s.buffer := rfl
@[simp] theorem appendFault_journals (s : State) (k : FaultKind) : (appendFault s k).journals = s.journals := rfl
@[simp] theorem appendFault_quarantine (s : State) (k : FaultKind) : (appendFault s k).quarantine = s.quarantine := rfl
@[simp] theorem appendFault_lines (s : State) (k : FaultKind) : (appendFault s k).lines = s.lines := rfl
@[simp] theorem appendFault_ageList (s : State) (k : FaultKind) : (appendFault s k).ageList = s.ageList := rfl
@[simp] theorem appendFault_commitQueue (s : State) (k : FaultKind) : (appendFault s k).commitQueue = s.commitQueue := rfl
@[simp] theorem appendFault_ageTimer (s : State) (k : FaultKind) : (appendFault s k).ageTimer = s.ageTimer := rfl
@[simp] theorem appendFault_regions (s : State) (k : FaultKind) : (appendFault s k).regions = s.regions := rfl
@[simp] theorem appendFault_settings (s : State) (k : FaultKind) : (appendFault s k).settings = s.settings := rfl
@[simp] theorem appendFault_port (s : State) (k : FaultKind) : (appendFault s k).port = s.port := rfl
@[simp] theorem appendFault_portAnswer (s : State) (k : FaultKind) : (appendFault s k).portAnswer = s.portAnswer := rfl
@[simp] theorem appendFault_bus (s : State) (k : FaultKind) : (appendFault s k).bus = s.bus := rfl
@[simp] theorem appendFault_frontEnd (s : State) (k : FaultKind) : (appendFault s k).frontEnd = s.frontEnd := rfl
@[simp] theorem appendFault_resetCause (s : State) (k : FaultKind) : (appendFault s k).resetCause = s.resetCause := rfl
@[simp] theorem appendFault_pwarn (s : State) (k : FaultKind) : (appendFault s k).pwarn = s.pwarn := rfl
@[simp] theorem appendFault_pwarnNoted (s : State) (k : FaultKind) : (appendFault s k).pwarnNoted = s.pwarnNoted := rfl
@[simp] theorem appendFault_resetnLow (s : State) (k : FaultKind) : (appendFault s k).resetnLow = s.resetnLow := rfl
@[simp] theorem appendFault_scan (s : State) (k : FaultKind) : (appendFault s k).scan = s.scan := rfl
@[simp] theorem appendFault_log (s : State) (k : FaultKind) : (appendFault s k).log = s.log.append k := rfl
@[simp] theorem appendFault_link (s : State) (k : FaultKind) : (appendFault s k).link = s.link := rfl
@[simp] theorem appendFault_unit (s : State) (k : FaultKind) : (appendFault s k).unit = s.unit := rfl
@[simp] theorem appendFault_freeIndex (s : State) (k : FaultKind) : (appendFault s k).freeIndex = s.freeIndex := rfl

/-! ### answer -/

@[simp] theorem answer_pending (s : State) (a : PortAnswer) : (answer s a).pending = s.pending := rfl
@[simp] theorem answer_cells (s : State) (a : PortAnswer) : (answer s a).cells = s.cells := rfl
@[simp] theorem answer_op (s : State) (a : PortAnswer) : (answer s a).op = s.op := rfl
@[simp] theorem answer_job (s : State) (a : PortAnswer) : (answer s a).job = s.job := rfl
@[simp] theorem answer_buffer (s : State) (a : PortAnswer) : (answer s a).buffer = s.buffer := rfl
@[simp] theorem answer_journals (s : State) (a : PortAnswer) : (answer s a).journals = s.journals := rfl
@[simp] theorem answer_quarantine (s : State) (a : PortAnswer) : (answer s a).quarantine = s.quarantine := rfl
@[simp] theorem answer_lines (s : State) (a : PortAnswer) : (answer s a).lines = s.lines := rfl
@[simp] theorem answer_ageList (s : State) (a : PortAnswer) : (answer s a).ageList = s.ageList := rfl
@[simp] theorem answer_commitQueue (s : State) (a : PortAnswer) : (answer s a).commitQueue = s.commitQueue := rfl
@[simp] theorem answer_ageTimer (s : State) (a : PortAnswer) : (answer s a).ageTimer = s.ageTimer := rfl
@[simp] theorem answer_regions (s : State) (a : PortAnswer) : (answer s a).regions = s.regions := rfl
@[simp] theorem answer_settings (s : State) (a : PortAnswer) : (answer s a).settings = s.settings := rfl
@[simp] theorem answer_port (s : State) (a : PortAnswer) : (answer s a).port = .idle := rfl
@[simp] theorem answer_portAnswer (s : State) (a : PortAnswer) : (answer s a).portAnswer = some a := rfl
@[simp] theorem answer_bus (s : State) (a : PortAnswer) : (answer s a).bus = s.bus := rfl
@[simp] theorem answer_frontEnd (s : State) (a : PortAnswer) : (answer s a).frontEnd = s.frontEnd := rfl
@[simp] theorem answer_resetCause (s : State) (a : PortAnswer) : (answer s a).resetCause = s.resetCause := rfl
@[simp] theorem answer_pwarn (s : State) (a : PortAnswer) : (answer s a).pwarn = s.pwarn := rfl
@[simp] theorem answer_pwarnNoted (s : State) (a : PortAnswer) : (answer s a).pwarnNoted = s.pwarnNoted := rfl
@[simp] theorem answer_resetnLow (s : State) (a : PortAnswer) : (answer s a).resetnLow = s.resetnLow := rfl
@[simp] theorem answer_scan (s : State) (a : PortAnswer) : (answer s a).scan = s.scan := rfl
@[simp] theorem answer_log (s : State) (a : PortAnswer) : (answer s a).log = s.log := rfl
@[simp] theorem answer_link (s : State) (a : PortAnswer) : (answer s a).link = s.link := rfl
@[simp] theorem answer_unit (s : State) (a : PortAnswer) : (answer s a).unit = s.unit := rfl
@[simp] theorem answer_freeIndex (s : State) (a : PortAnswer) : (answer s a).freeIndex = s.freeIndex := rfl

/-! ### beginHold -/

@[simp] theorem beginHold_pending (s : State) (t : Transaction) (k : AccessKind) (c : HoldCause) : (beginHold s t k c).pending = s.pending := rfl
@[simp] theorem beginHold_cells (s : State) (t : Transaction) (k : AccessKind) (c : HoldCause) : (beginHold s t k c).cells = s.cells := rfl
@[simp] theorem beginHold_op (s : State) (t : Transaction) (k : AccessKind) (c : HoldCause) : (beginHold s t k c).op = s.op := rfl
@[simp] theorem beginHold_job (s : State) (t : Transaction) (k : AccessKind) (c : HoldCause) : (beginHold s t k c).job = s.job := rfl
@[simp] theorem beginHold_buffer (s : State) (t : Transaction) (k : AccessKind) (c : HoldCause) : (beginHold s t k c).buffer = s.buffer := rfl
@[simp] theorem beginHold_journals (s : State) (t : Transaction) (k : AccessKind) (c : HoldCause) : (beginHold s t k c).journals = s.journals := rfl
@[simp] theorem beginHold_quarantine (s : State) (t : Transaction) (k : AccessKind) (c : HoldCause) : (beginHold s t k c).quarantine = s.quarantine := rfl
@[simp] theorem beginHold_lines (s : State) (t : Transaction) (k : AccessKind) (c : HoldCause) : (beginHold s t k c).lines = s.lines := rfl
@[simp] theorem beginHold_ageList (s : State) (t : Transaction) (k : AccessKind) (c : HoldCause) : (beginHold s t k c).ageList = s.ageList := rfl
@[simp] theorem beginHold_commitQueue (s : State) (t : Transaction) (k : AccessKind) (c : HoldCause) : (beginHold s t k c).commitQueue = s.commitQueue := rfl
@[simp] theorem beginHold_ageTimer (s : State) (t : Transaction) (k : AccessKind) (c : HoldCause) : (beginHold s t k c).ageTimer = s.ageTimer := rfl
@[simp] theorem beginHold_regions (s : State) (t : Transaction) (k : AccessKind) (c : HoldCause) : (beginHold s t k c).regions = s.regions := rfl
@[simp] theorem beginHold_settings (s : State) (t : Transaction) (k : AccessKind) (c : HoldCause) : (beginHold s t k c).settings = s.settings := rfl
@[simp] theorem beginHold_port (s : State) (t : Transaction) (k : AccessKind) (c : HoldCause) : (beginHold s t k c).port = .held t k c (s.settings.holdLimit * 32) := rfl
@[simp] theorem beginHold_portAnswer (s : State) (t : Transaction) (k : AccessKind) (c : HoldCause) : (beginHold s t k c).portAnswer = s.portAnswer := rfl
@[simp] theorem beginHold_bus (s : State) (t : Transaction) (k : AccessKind) (c : HoldCause) : (beginHold s t k c).bus = s.bus := rfl
@[simp] theorem beginHold_frontEnd (s : State) (t : Transaction) (k : AccessKind) (c : HoldCause) : (beginHold s t k c).frontEnd = s.frontEnd := rfl
@[simp] theorem beginHold_resetCause (s : State) (t : Transaction) (k : AccessKind) (c : HoldCause) : (beginHold s t k c).resetCause = s.resetCause := rfl
@[simp] theorem beginHold_pwarn (s : State) (t : Transaction) (k : AccessKind) (c : HoldCause) : (beginHold s t k c).pwarn = s.pwarn := rfl
@[simp] theorem beginHold_pwarnNoted (s : State) (t : Transaction) (k : AccessKind) (c : HoldCause) : (beginHold s t k c).pwarnNoted = s.pwarnNoted := rfl
@[simp] theorem beginHold_resetnLow (s : State) (t : Transaction) (k : AccessKind) (c : HoldCause) : (beginHold s t k c).resetnLow = s.resetnLow := rfl
@[simp] theorem beginHold_scan (s : State) (t : Transaction) (k : AccessKind) (c : HoldCause) : (beginHold s t k c).scan = s.scan := rfl
@[simp] theorem beginHold_log (s : State) (t : Transaction) (k : AccessKind) (c : HoldCause) : (beginHold s t k c).log = s.log := rfl
@[simp] theorem beginHold_link (s : State) (t : Transaction) (k : AccessKind) (c : HoldCause) : (beginHold s t k c).link = s.link := rfl
@[simp] theorem beginHold_unit (s : State) (t : Transaction) (k : AccessKind) (c : HoldCause) : (beginHold s t k c).unit = s.unit := rfl
@[simp] theorem beginHold_freeIndex (s : State) (t : Transaction) (k : AccessKind) (c : HoldCause) : (beginHold s t k c).freeIndex = s.freeIndex := rfl

/-! ### startReadPage -/

@[simp] theorem startReadPage_pending (s : State) (cp : CellPage) : (startReadPage s cp).pending = s.pending := rfl
@[simp] theorem startReadPage_cells (s : State) (cp : CellPage) : (startReadPage s cp).cells = s.cells := rfl
@[simp] theorem startReadPage_op (s : State) (cp : CellPage) : (startReadPage s cp).op = some (.readPage cp) := rfl
@[simp] theorem startReadPage_job (s : State) (cp : CellPage) : (startReadPage s cp).job = s.job := rfl
@[simp] theorem startReadPage_buffer (s : State) (cp : CellPage) : (startReadPage s cp).buffer = s.buffer := rfl
@[simp] theorem startReadPage_journals (s : State) (cp : CellPage) : (startReadPage s cp).journals = s.journals := rfl
@[simp] theorem startReadPage_quarantine (s : State) (cp : CellPage) : (startReadPage s cp).quarantine = s.quarantine := rfl
@[simp] theorem startReadPage_lines (s : State) (cp : CellPage) : (startReadPage s cp).lines = s.lines := rfl
@[simp] theorem startReadPage_ageList (s : State) (cp : CellPage) : (startReadPage s cp).ageList = s.ageList := rfl
@[simp] theorem startReadPage_commitQueue (s : State) (cp : CellPage) : (startReadPage s cp).commitQueue = s.commitQueue := rfl
@[simp] theorem startReadPage_ageTimer (s : State) (cp : CellPage) : (startReadPage s cp).ageTimer = s.ageTimer := rfl
@[simp] theorem startReadPage_regions (s : State) (cp : CellPage) : (startReadPage s cp).regions = s.regions := rfl
@[simp] theorem startReadPage_settings (s : State) (cp : CellPage) : (startReadPage s cp).settings = s.settings := rfl
@[simp] theorem startReadPage_port (s : State) (cp : CellPage) : (startReadPage s cp).port = s.port := rfl
@[simp] theorem startReadPage_portAnswer (s : State) (cp : CellPage) : (startReadPage s cp).portAnswer = s.portAnswer := rfl
@[simp] theorem startReadPage_bus (s : State) (cp : CellPage) : (startReadPage s cp).bus = s.bus := rfl
@[simp] theorem startReadPage_frontEnd (s : State) (cp : CellPage) : (startReadPage s cp).frontEnd = s.frontEnd := rfl
@[simp] theorem startReadPage_resetCause (s : State) (cp : CellPage) : (startReadPage s cp).resetCause = s.resetCause := rfl
@[simp] theorem startReadPage_pwarn (s : State) (cp : CellPage) : (startReadPage s cp).pwarn = s.pwarn := rfl
@[simp] theorem startReadPage_pwarnNoted (s : State) (cp : CellPage) : (startReadPage s cp).pwarnNoted = s.pwarnNoted := rfl
@[simp] theorem startReadPage_resetnLow (s : State) (cp : CellPage) : (startReadPage s cp).resetnLow = s.resetnLow := rfl
@[simp] theorem startReadPage_scan (s : State) (cp : CellPage) : (startReadPage s cp).scan = s.scan := rfl
@[simp] theorem startReadPage_log (s : State) (cp : CellPage) : (startReadPage s cp).log = s.log := rfl
@[simp] theorem startReadPage_link (s : State) (cp : CellPage) : (startReadPage s cp).link = s.link := rfl
@[simp] theorem startReadPage_unit (s : State) (cp : CellPage) : (startReadPage s cp).unit = s.unit := rfl
@[simp] theorem startReadPage_freeIndex (s : State) (cp : CellPage) : (startReadPage s cp).freeIndex = s.freeIndex := rfl

/-! ### startBlankCheck -/

@[simp] theorem startBlankCheck_pending (s : State) (t : Target) : (startBlankCheck s t).pending = s.pending := rfl
@[simp] theorem startBlankCheck_cells (s : State) (t : Target) : (startBlankCheck s t).cells = s.cells := rfl
@[simp] theorem startBlankCheck_op (s : State) (t : Target) : (startBlankCheck s t).op = some (.blankCheck t) := rfl
@[simp] theorem startBlankCheck_job (s : State) (t : Target) : (startBlankCheck s t).job = s.job := rfl
@[simp] theorem startBlankCheck_buffer (s : State) (t : Target) : (startBlankCheck s t).buffer = s.buffer := rfl
@[simp] theorem startBlankCheck_journals (s : State) (t : Target) : (startBlankCheck s t).journals = s.journals := rfl
@[simp] theorem startBlankCheck_quarantine (s : State) (t : Target) : (startBlankCheck s t).quarantine = s.quarantine := rfl
@[simp] theorem startBlankCheck_lines (s : State) (t : Target) : (startBlankCheck s t).lines = s.lines := rfl
@[simp] theorem startBlankCheck_ageList (s : State) (t : Target) : (startBlankCheck s t).ageList = s.ageList := rfl
@[simp] theorem startBlankCheck_commitQueue (s : State) (t : Target) : (startBlankCheck s t).commitQueue = s.commitQueue := rfl
@[simp] theorem startBlankCheck_ageTimer (s : State) (t : Target) : (startBlankCheck s t).ageTimer = s.ageTimer := rfl
@[simp] theorem startBlankCheck_regions (s : State) (t : Target) : (startBlankCheck s t).regions = s.regions := rfl
@[simp] theorem startBlankCheck_settings (s : State) (t : Target) : (startBlankCheck s t).settings = s.settings := rfl
@[simp] theorem startBlankCheck_port (s : State) (t : Target) : (startBlankCheck s t).port = s.port := rfl
@[simp] theorem startBlankCheck_portAnswer (s : State) (t : Target) : (startBlankCheck s t).portAnswer = s.portAnswer := rfl
@[simp] theorem startBlankCheck_bus (s : State) (t : Target) : (startBlankCheck s t).bus = s.bus := rfl
@[simp] theorem startBlankCheck_frontEnd (s : State) (t : Target) : (startBlankCheck s t).frontEnd = s.frontEnd := rfl
@[simp] theorem startBlankCheck_resetCause (s : State) (t : Target) : (startBlankCheck s t).resetCause = s.resetCause := rfl
@[simp] theorem startBlankCheck_pwarn (s : State) (t : Target) : (startBlankCheck s t).pwarn = s.pwarn := rfl
@[simp] theorem startBlankCheck_pwarnNoted (s : State) (t : Target) : (startBlankCheck s t).pwarnNoted = s.pwarnNoted := rfl
@[simp] theorem startBlankCheck_resetnLow (s : State) (t : Target) : (startBlankCheck s t).resetnLow = s.resetnLow := rfl
@[simp] theorem startBlankCheck_scan (s : State) (t : Target) : (startBlankCheck s t).scan = s.scan := rfl
@[simp] theorem startBlankCheck_log (s : State) (t : Target) : (startBlankCheck s t).log = s.log := rfl
@[simp] theorem startBlankCheck_link (s : State) (t : Target) : (startBlankCheck s t).link = s.link := rfl
@[simp] theorem startBlankCheck_unit (s : State) (t : Target) : (startBlankCheck s t).unit = s.unit := rfl
@[simp] theorem startBlankCheck_freeIndex (s : State) (t : Target) : (startBlankCheck s t).freeIndex = s.freeIndex := rfl

/-! ### removeOp -/

@[simp] theorem removeOp_pending (s : State) : (removeOp s).pending = s.pending := rfl
@[simp] theorem removeOp_cells (s : State) : (removeOp s).cells = s.cells := rfl
@[simp] theorem removeOp_op (s : State) : (removeOp s).op = none := rfl
@[simp] theorem removeOp_job (s : State) : (removeOp s).job = s.job := rfl
@[simp] theorem removeOp_buffer (s : State) : (removeOp s).buffer = s.buffer := rfl
@[simp] theorem removeOp_journals (s : State) : (removeOp s).journals = s.journals := rfl
@[simp] theorem removeOp_quarantine (s : State) : (removeOp s).quarantine = s.quarantine := rfl
@[simp] theorem removeOp_lines (s : State) : (removeOp s).lines = s.lines := rfl
@[simp] theorem removeOp_ageList (s : State) : (removeOp s).ageList = s.ageList := rfl
@[simp] theorem removeOp_commitQueue (s : State) : (removeOp s).commitQueue = s.commitQueue := rfl
@[simp] theorem removeOp_ageTimer (s : State) : (removeOp s).ageTimer = s.ageTimer := rfl
@[simp] theorem removeOp_regions (s : State) : (removeOp s).regions = s.regions := rfl
@[simp] theorem removeOp_settings (s : State) : (removeOp s).settings = s.settings := rfl
@[simp] theorem removeOp_port (s : State) : (removeOp s).port = s.port := rfl
@[simp] theorem removeOp_portAnswer (s : State) : (removeOp s).portAnswer = s.portAnswer := rfl
@[simp] theorem removeOp_bus (s : State) : (removeOp s).bus = s.bus := rfl
@[simp] theorem removeOp_frontEnd (s : State) : (removeOp s).frontEnd = s.frontEnd := rfl
@[simp] theorem removeOp_resetCause (s : State) : (removeOp s).resetCause = s.resetCause := rfl
@[simp] theorem removeOp_pwarn (s : State) : (removeOp s).pwarn = s.pwarn := rfl
@[simp] theorem removeOp_pwarnNoted (s : State) : (removeOp s).pwarnNoted = s.pwarnNoted := rfl
@[simp] theorem removeOp_resetnLow (s : State) : (removeOp s).resetnLow = s.resetnLow := rfl
@[simp] theorem removeOp_scan (s : State) : (removeOp s).scan = s.scan := rfl
@[simp] theorem removeOp_log (s : State) : (removeOp s).log = s.log := rfl
@[simp] theorem removeOp_link (s : State) : (removeOp s).link = s.link := rfl
@[simp] theorem removeOp_unit (s : State) : (removeOp s).unit = s.unit := rfl
@[simp] theorem removeOp_freeIndex (s : State) : (removeOp s).freeIndex = s.freeIndex := rfl

/-! ### setJournal -/

@[simp] theorem setJournal_pending (s : State) (j : Journal) (v : JournalState) : (setJournal s j v).pending = s.pending := rfl
@[simp] theorem setJournal_cells (s : State) (j : Journal) (v : JournalState) : (setJournal s j v).cells = s.cells := rfl
@[simp] theorem setJournal_op (s : State) (j : Journal) (v : JournalState) : (setJournal s j v).op = s.op := rfl
@[simp] theorem setJournal_job (s : State) (j : Journal) (v : JournalState) : (setJournal s j v).job = s.job := rfl
@[simp] theorem setJournal_buffer (s : State) (j : Journal) (v : JournalState) : (setJournal s j v).buffer = s.buffer := rfl
@[simp] theorem setJournal_journals (s : State) (j : Journal) (v : JournalState) : (setJournal s j v).journals = s.journals.set (journalBank j) v := rfl
@[simp] theorem setJournal_quarantine (s : State) (j : Journal) (v : JournalState) : (setJournal s j v).quarantine = s.quarantine := rfl
@[simp] theorem setJournal_lines (s : State) (j : Journal) (v : JournalState) : (setJournal s j v).lines = s.lines := rfl
@[simp] theorem setJournal_ageList (s : State) (j : Journal) (v : JournalState) : (setJournal s j v).ageList = s.ageList := rfl
@[simp] theorem setJournal_commitQueue (s : State) (j : Journal) (v : JournalState) : (setJournal s j v).commitQueue = s.commitQueue := rfl
@[simp] theorem setJournal_ageTimer (s : State) (j : Journal) (v : JournalState) : (setJournal s j v).ageTimer = s.ageTimer := rfl
@[simp] theorem setJournal_regions (s : State) (j : Journal) (v : JournalState) : (setJournal s j v).regions = s.regions := rfl
@[simp] theorem setJournal_settings (s : State) (j : Journal) (v : JournalState) : (setJournal s j v).settings = s.settings := rfl
@[simp] theorem setJournal_port (s : State) (j : Journal) (v : JournalState) : (setJournal s j v).port = s.port := rfl
@[simp] theorem setJournal_portAnswer (s : State) (j : Journal) (v : JournalState) : (setJournal s j v).portAnswer = s.portAnswer := rfl
@[simp] theorem setJournal_bus (s : State) (j : Journal) (v : JournalState) : (setJournal s j v).bus = s.bus := rfl
@[simp] theorem setJournal_frontEnd (s : State) (j : Journal) (v : JournalState) : (setJournal s j v).frontEnd = s.frontEnd := rfl
@[simp] theorem setJournal_resetCause (s : State) (j : Journal) (v : JournalState) : (setJournal s j v).resetCause = s.resetCause := rfl
@[simp] theorem setJournal_pwarn (s : State) (j : Journal) (v : JournalState) : (setJournal s j v).pwarn = s.pwarn := rfl
@[simp] theorem setJournal_pwarnNoted (s : State) (j : Journal) (v : JournalState) : (setJournal s j v).pwarnNoted = s.pwarnNoted := rfl
@[simp] theorem setJournal_resetnLow (s : State) (j : Journal) (v : JournalState) : (setJournal s j v).resetnLow = s.resetnLow := rfl
@[simp] theorem setJournal_scan (s : State) (j : Journal) (v : JournalState) : (setJournal s j v).scan = s.scan := rfl
@[simp] theorem setJournal_log (s : State) (j : Journal) (v : JournalState) : (setJournal s j v).log = s.log := rfl
@[simp] theorem setJournal_link (s : State) (j : Journal) (v : JournalState) : (setJournal s j v).link = s.link := rfl
@[simp] theorem setJournal_unit (s : State) (j : Journal) (v : JournalState) : (setJournal s j v).unit = s.unit := rfl
@[simp] theorem setJournal_freeIndex (s : State) (j : Journal) (v : JournalState) : (setJournal s j v).freeIndex = s.freeIndex := rfl

/-! ### setQuarantine -/

@[simp] theorem setQuarantine_pending (s : State) (sec : SectorNo) (g : Ground) : (setQuarantine s sec g).pending = s.pending := rfl
@[simp] theorem setQuarantine_cells (s : State) (sec : SectorNo) (g : Ground) : (setQuarantine s sec g).cells = s.cells := rfl
@[simp] theorem setQuarantine_op (s : State) (sec : SectorNo) (g : Ground) : (setQuarantine s sec g).op = s.op := rfl
@[simp] theorem setQuarantine_job (s : State) (sec : SectorNo) (g : Ground) : (setQuarantine s sec g).job = s.job := rfl
@[simp] theorem setQuarantine_buffer (s : State) (sec : SectorNo) (g : Ground) : (setQuarantine s sec g).buffer = s.buffer := rfl
@[simp] theorem setQuarantine_journals (s : State) (sec : SectorNo) (g : Ground) : (setQuarantine s sec g).journals = s.journals := rfl
@[simp] theorem setQuarantine_quarantine (s : State) (sec : SectorNo) (g : Ground) : (setQuarantine s sec g).quarantine = s.quarantine.set (bankOf sec) { sector := some sec, ground := g, pending := .none } := rfl
@[simp] theorem setQuarantine_lines (s : State) (sec : SectorNo) (g : Ground) : (setQuarantine s sec g).lines = s.lines := rfl
@[simp] theorem setQuarantine_ageList (s : State) (sec : SectorNo) (g : Ground) : (setQuarantine s sec g).ageList = s.ageList := rfl
@[simp] theorem setQuarantine_commitQueue (s : State) (sec : SectorNo) (g : Ground) : (setQuarantine s sec g).commitQueue = s.commitQueue := rfl
@[simp] theorem setQuarantine_ageTimer (s : State) (sec : SectorNo) (g : Ground) : (setQuarantine s sec g).ageTimer = s.ageTimer := rfl
@[simp] theorem setQuarantine_regions (s : State) (sec : SectorNo) (g : Ground) : (setQuarantine s sec g).regions = s.regions := rfl
@[simp] theorem setQuarantine_settings (s : State) (sec : SectorNo) (g : Ground) : (setQuarantine s sec g).settings = s.settings := rfl
@[simp] theorem setQuarantine_port (s : State) (sec : SectorNo) (g : Ground) : (setQuarantine s sec g).port = s.port := rfl
@[simp] theorem setQuarantine_portAnswer (s : State) (sec : SectorNo) (g : Ground) : (setQuarantine s sec g).portAnswer = s.portAnswer := rfl
@[simp] theorem setQuarantine_bus (s : State) (sec : SectorNo) (g : Ground) : (setQuarantine s sec g).bus = s.bus := rfl
@[simp] theorem setQuarantine_frontEnd (s : State) (sec : SectorNo) (g : Ground) : (setQuarantine s sec g).frontEnd = s.frontEnd := rfl
@[simp] theorem setQuarantine_resetCause (s : State) (sec : SectorNo) (g : Ground) : (setQuarantine s sec g).resetCause = s.resetCause := rfl
@[simp] theorem setQuarantine_pwarn (s : State) (sec : SectorNo) (g : Ground) : (setQuarantine s sec g).pwarn = s.pwarn := rfl
@[simp] theorem setQuarantine_pwarnNoted (s : State) (sec : SectorNo) (g : Ground) : (setQuarantine s sec g).pwarnNoted = s.pwarnNoted := rfl
@[simp] theorem setQuarantine_resetnLow (s : State) (sec : SectorNo) (g : Ground) : (setQuarantine s sec g).resetnLow = s.resetnLow := rfl
@[simp] theorem setQuarantine_scan (s : State) (sec : SectorNo) (g : Ground) : (setQuarantine s sec g).scan = s.scan := rfl
@[simp] theorem setQuarantine_log (s : State) (sec : SectorNo) (g : Ground) : (setQuarantine s sec g).log = s.log := rfl
@[simp] theorem setQuarantine_link (s : State) (sec : SectorNo) (g : Ground) : (setQuarantine s sec g).link = s.link := rfl
@[simp] theorem setQuarantine_unit (s : State) (sec : SectorNo) (g : Ground) : (setQuarantine s sec g).unit = s.unit := rfl
@[simp] theorem setQuarantine_freeIndex (s : State) (sec : SectorNo) (g : Ground) : (setQuarantine s sec g).freeIndex = s.freeIndex := rfl

/-! ### clearQuarantine -/

@[simp] theorem clearQuarantine_pending (s : State) (sec : SectorNo) : (clearQuarantine s sec).pending = s.pending := rfl
@[simp] theorem clearQuarantine_cells (s : State) (sec : SectorNo) : (clearQuarantine s sec).cells = s.cells := rfl
@[simp] theorem clearQuarantine_op (s : State) (sec : SectorNo) : (clearQuarantine s sec).op = s.op := rfl
@[simp] theorem clearQuarantine_job (s : State) (sec : SectorNo) : (clearQuarantine s sec).job = s.job := rfl
@[simp] theorem clearQuarantine_buffer (s : State) (sec : SectorNo) : (clearQuarantine s sec).buffer = s.buffer := rfl
@[simp] theorem clearQuarantine_journals (s : State) (sec : SectorNo) : (clearQuarantine s sec).journals = s.journals := rfl
@[simp] theorem clearQuarantine_quarantine (s : State) (sec : SectorNo) : (clearQuarantine s sec).quarantine = s.quarantine.set (bankOf sec)
      { s.quarantine.get (bankOf sec) with sector := none, pending := .none } := rfl
@[simp] theorem clearQuarantine_lines (s : State) (sec : SectorNo) : (clearQuarantine s sec).lines = s.lines := rfl
@[simp] theorem clearQuarantine_ageList (s : State) (sec : SectorNo) : (clearQuarantine s sec).ageList = s.ageList := rfl
@[simp] theorem clearQuarantine_commitQueue (s : State) (sec : SectorNo) : (clearQuarantine s sec).commitQueue = s.commitQueue := rfl
@[simp] theorem clearQuarantine_ageTimer (s : State) (sec : SectorNo) : (clearQuarantine s sec).ageTimer = s.ageTimer := rfl
@[simp] theorem clearQuarantine_regions (s : State) (sec : SectorNo) : (clearQuarantine s sec).regions = s.regions := rfl
@[simp] theorem clearQuarantine_settings (s : State) (sec : SectorNo) : (clearQuarantine s sec).settings = s.settings := rfl
@[simp] theorem clearQuarantine_port (s : State) (sec : SectorNo) : (clearQuarantine s sec).port = s.port := rfl
@[simp] theorem clearQuarantine_portAnswer (s : State) (sec : SectorNo) : (clearQuarantine s sec).portAnswer = s.portAnswer := rfl
@[simp] theorem clearQuarantine_bus (s : State) (sec : SectorNo) : (clearQuarantine s sec).bus = s.bus := rfl
@[simp] theorem clearQuarantine_frontEnd (s : State) (sec : SectorNo) : (clearQuarantine s sec).frontEnd = s.frontEnd := rfl
@[simp] theorem clearQuarantine_resetCause (s : State) (sec : SectorNo) : (clearQuarantine s sec).resetCause = s.resetCause := rfl
@[simp] theorem clearQuarantine_pwarn (s : State) (sec : SectorNo) : (clearQuarantine s sec).pwarn = s.pwarn := rfl
@[simp] theorem clearQuarantine_pwarnNoted (s : State) (sec : SectorNo) : (clearQuarantine s sec).pwarnNoted = s.pwarnNoted := rfl
@[simp] theorem clearQuarantine_resetnLow (s : State) (sec : SectorNo) : (clearQuarantine s sec).resetnLow = s.resetnLow := rfl
@[simp] theorem clearQuarantine_scan (s : State) (sec : SectorNo) : (clearQuarantine s sec).scan = s.scan := rfl
@[simp] theorem clearQuarantine_log (s : State) (sec : SectorNo) : (clearQuarantine s sec).log = s.log := rfl
@[simp] theorem clearQuarantine_link (s : State) (sec : SectorNo) : (clearQuarantine s sec).link = s.link := rfl
@[simp] theorem clearQuarantine_unit (s : State) (sec : SectorNo) : (clearQuarantine s sec).unit = s.unit := rfl
@[simp] theorem clearQuarantine_freeIndex (s : State) (sec : SectorNo) : (clearQuarantine s sec).freeIndex = s.freeIndex := rfl

/-! ### loadAgeTimer -/

@[simp] theorem loadAgeTimer_pending (s : State) : (loadAgeTimer s).pending = s.pending := rfl
@[simp] theorem loadAgeTimer_cells (s : State) : (loadAgeTimer s).cells = s.cells := rfl
@[simp] theorem loadAgeTimer_op (s : State) : (loadAgeTimer s).op = s.op := rfl
@[simp] theorem loadAgeTimer_job (s : State) : (loadAgeTimer s).job = s.job := rfl
@[simp] theorem loadAgeTimer_buffer (s : State) : (loadAgeTimer s).buffer = s.buffer := rfl
@[simp] theorem loadAgeTimer_journals (s : State) : (loadAgeTimer s).journals = s.journals := rfl
@[simp] theorem loadAgeTimer_quarantine (s : State) : (loadAgeTimer s).quarantine = s.quarantine := rfl
@[simp] theorem loadAgeTimer_lines (s : State) : (loadAgeTimer s).lines = s.lines := rfl
@[simp] theorem loadAgeTimer_ageList (s : State) : (loadAgeTimer s).ageList = s.ageList := rfl
@[simp] theorem loadAgeTimer_commitQueue (s : State) : (loadAgeTimer s).commitQueue = s.commitQueue := rfl
@[simp] theorem loadAgeTimer_ageTimer (s : State) : (loadAgeTimer s).ageTimer = some (s.settings.tick * 50) := rfl
@[simp] theorem loadAgeTimer_regions (s : State) : (loadAgeTimer s).regions = s.regions := rfl
@[simp] theorem loadAgeTimer_settings (s : State) : (loadAgeTimer s).settings = s.settings := rfl
@[simp] theorem loadAgeTimer_port (s : State) : (loadAgeTimer s).port = s.port := rfl
@[simp] theorem loadAgeTimer_portAnswer (s : State) : (loadAgeTimer s).portAnswer = s.portAnswer := rfl
@[simp] theorem loadAgeTimer_bus (s : State) : (loadAgeTimer s).bus = s.bus := rfl
@[simp] theorem loadAgeTimer_frontEnd (s : State) : (loadAgeTimer s).frontEnd = s.frontEnd := rfl
@[simp] theorem loadAgeTimer_resetCause (s : State) : (loadAgeTimer s).resetCause = s.resetCause := rfl
@[simp] theorem loadAgeTimer_pwarn (s : State) : (loadAgeTimer s).pwarn = s.pwarn := rfl
@[simp] theorem loadAgeTimer_pwarnNoted (s : State) : (loadAgeTimer s).pwarnNoted = s.pwarnNoted := rfl
@[simp] theorem loadAgeTimer_resetnLow (s : State) : (loadAgeTimer s).resetnLow = s.resetnLow := rfl
@[simp] theorem loadAgeTimer_scan (s : State) : (loadAgeTimer s).scan = s.scan := rfl
@[simp] theorem loadAgeTimer_log (s : State) : (loadAgeTimer s).log = s.log := rfl
@[simp] theorem loadAgeTimer_link (s : State) : (loadAgeTimer s).link = s.link := rfl
@[simp] theorem loadAgeTimer_unit (s : State) : (loadAgeTimer s).unit = s.unit := rfl
@[simp] theorem loadAgeTimer_freeIndex (s : State) : (loadAgeTimer s).freeIndex = s.freeIndex := rfl

/-! ### beginResponse -/

@[simp] theorem beginResponse_pending (s : State) (r : Response) : (beginResponse s r).pending = s.pending := rfl
@[simp] theorem beginResponse_cells (s : State) (r : Response) : (beginResponse s r).cells = s.cells := rfl
@[simp] theorem beginResponse_op (s : State) (r : Response) : (beginResponse s r).op = s.op := rfl
@[simp] theorem beginResponse_job (s : State) (r : Response) : (beginResponse s r).job = s.job := rfl
@[simp] theorem beginResponse_buffer (s : State) (r : Response) : (beginResponse s r).buffer = s.buffer := rfl
@[simp] theorem beginResponse_journals (s : State) (r : Response) : (beginResponse s r).journals = s.journals := rfl
@[simp] theorem beginResponse_quarantine (s : State) (r : Response) : (beginResponse s r).quarantine = s.quarantine := rfl
@[simp] theorem beginResponse_lines (s : State) (r : Response) : (beginResponse s r).lines = s.lines := rfl
@[simp] theorem beginResponse_ageList (s : State) (r : Response) : (beginResponse s r).ageList = s.ageList := rfl
@[simp] theorem beginResponse_commitQueue (s : State) (r : Response) : (beginResponse s r).commitQueue = s.commitQueue := rfl
@[simp] theorem beginResponse_ageTimer (s : State) (r : Response) : (beginResponse s r).ageTimer = s.ageTimer := rfl
@[simp] theorem beginResponse_regions (s : State) (r : Response) : (beginResponse s r).regions = s.regions := rfl
@[simp] theorem beginResponse_settings (s : State) (r : Response) : (beginResponse s r).settings = s.settings := rfl
@[simp] theorem beginResponse_port (s : State) (r : Response) : (beginResponse s r).port = s.port := rfl
@[simp] theorem beginResponse_portAnswer (s : State) (r : Response) : (beginResponse s r).portAnswer = s.portAnswer := rfl
@[simp] theorem beginResponse_bus (s : State) (r : Response) : (beginResponse s r).bus = s.bus := rfl
@[simp] theorem beginResponse_frontEnd (s : State) (r : Response) : (beginResponse s r).frontEnd = s.frontEnd := rfl
@[simp] theorem beginResponse_resetCause (s : State) (r : Response) : (beginResponse s r).resetCause = s.resetCause := rfl
@[simp] theorem beginResponse_pwarn (s : State) (r : Response) : (beginResponse s r).pwarn = s.pwarn := rfl
@[simp] theorem beginResponse_pwarnNoted (s : State) (r : Response) : (beginResponse s r).pwarnNoted = s.pwarnNoted := rfl
@[simp] theorem beginResponse_resetnLow (s : State) (r : Response) : (beginResponse s r).resetnLow = s.resetnLow := rfl
@[simp] theorem beginResponse_scan (s : State) (r : Response) : (beginResponse s r).scan = s.scan := rfl
@[simp] theorem beginResponse_log (s : State) (r : Response) : (beginResponse s r).log = s.log := rfl
@[simp] theorem beginResponse_link (s : State) (r : Response) : (beginResponse s r).link = { s.link with
      transmitter := .response (responseBytes r (flagsByte s)) r.resets, overrunFlag := false, framingFlag := false } := rfl
@[simp] theorem beginResponse_unit (s : State) (r : Response) : (beginResponse s r).unit = s.unit := rfl
@[simp] theorem beginResponse_freeIndex (s : State) (r : Response) : (beginResponse s r).freeIndex = s.freeIndex := rfl

/-! ### byteCompleted -/

@[simp] theorem byteCompleted_pending (s : State) : (byteCompleted s).pending = s.pending := rfl
@[simp] theorem byteCompleted_cells (s : State) : (byteCompleted s).cells = s.cells := rfl
@[simp] theorem byteCompleted_op (s : State) : (byteCompleted s).op = s.op := rfl
@[simp] theorem byteCompleted_job (s : State) : (byteCompleted s).job = s.job := rfl
@[simp] theorem byteCompleted_buffer (s : State) : (byteCompleted s).buffer = s.buffer := rfl
@[simp] theorem byteCompleted_journals (s : State) : (byteCompleted s).journals = s.journals := rfl
@[simp] theorem byteCompleted_quarantine (s : State) : (byteCompleted s).quarantine = s.quarantine := rfl
@[simp] theorem byteCompleted_lines (s : State) : (byteCompleted s).lines = s.lines := rfl
@[simp] theorem byteCompleted_ageList (s : State) : (byteCompleted s).ageList = s.ageList := rfl
@[simp] theorem byteCompleted_commitQueue (s : State) : (byteCompleted s).commitQueue = s.commitQueue := rfl
@[simp] theorem byteCompleted_ageTimer (s : State) : (byteCompleted s).ageTimer = s.ageTimer := rfl
@[simp] theorem byteCompleted_regions (s : State) : (byteCompleted s).regions = s.regions := rfl
@[simp] theorem byteCompleted_settings (s : State) : (byteCompleted s).settings = s.settings := rfl
@[simp] theorem byteCompleted_port (s : State) : (byteCompleted s).port = s.port := rfl
@[simp] theorem byteCompleted_portAnswer (s : State) : (byteCompleted s).portAnswer = s.portAnswer := rfl
@[simp] theorem byteCompleted_bus (s : State) : (byteCompleted s).bus = s.bus := rfl
@[simp] theorem byteCompleted_frontEnd (s : State) : (byteCompleted s).frontEnd = s.frontEnd := rfl
@[simp] theorem byteCompleted_resetCause (s : State) : (byteCompleted s).resetCause = s.resetCause := rfl
@[simp] theorem byteCompleted_pwarn (s : State) : (byteCompleted s).pwarn = s.pwarn := rfl
@[simp] theorem byteCompleted_pwarnNoted (s : State) : (byteCompleted s).pwarnNoted = s.pwarnNoted := rfl
@[simp] theorem byteCompleted_resetnLow (s : State) : (byteCompleted s).resetnLow = s.resetnLow := rfl
@[simp] theorem byteCompleted_scan (s : State) : (byteCompleted s).scan = s.scan := rfl
@[simp] theorem byteCompleted_log (s : State) : (byteCompleted s).log = s.log := rfl
@[simp] theorem byteCompleted_link (s : State) : (byteCompleted s).link = { s.link with completing := none } := rfl
@[simp] theorem byteCompleted_unit (s : State) : (byteCompleted s).unit = s.unit := rfl
@[simp] theorem byteCompleted_freeIndex (s : State) : (byteCompleted s).freeIndex = s.freeIndex := rfl

/-! ### startErasePulse -/

@[simp] theorem startErasePulse_pending (s : State) (j : Job) (t : Target) (n : Nat) : (startErasePulse s j t n).pending = s.pending := rfl
@[simp] theorem startErasePulse_cells (s : State) (j : Job) (t : Target) (n : Nat) : (startErasePulse s j t n).cells = s.cells := rfl
@[simp] theorem startErasePulse_op (s : State) (j : Job) (t : Target) (n : Nat) : (startErasePulse s j t n).op = some (.erasePulse t .setup) := rfl
@[simp] theorem startErasePulse_job (s : State) (j : Job) (t : Target) (n : Nat) : (startErasePulse s j t n).job = some { j with loop := some (.erase t n) } := rfl
@[simp] theorem startErasePulse_buffer (s : State) (j : Job) (t : Target) (n : Nat) : (startErasePulse s j t n).buffer = s.buffer := rfl
@[simp] theorem startErasePulse_journals (s : State) (j : Job) (t : Target) (n : Nat) : (startErasePulse s j t n).journals = s.journals := rfl
@[simp] theorem startErasePulse_quarantine (s : State) (j : Job) (t : Target) (n : Nat) : (startErasePulse s j t n).quarantine = s.quarantine := rfl
@[simp] theorem startErasePulse_lines (s : State) (j : Job) (t : Target) (n : Nat) : (startErasePulse s j t n).lines = s.lines := rfl
@[simp] theorem startErasePulse_ageList (s : State) (j : Job) (t : Target) (n : Nat) : (startErasePulse s j t n).ageList = s.ageList := rfl
@[simp] theorem startErasePulse_commitQueue (s : State) (j : Job) (t : Target) (n : Nat) : (startErasePulse s j t n).commitQueue = s.commitQueue := rfl
@[simp] theorem startErasePulse_ageTimer (s : State) (j : Job) (t : Target) (n : Nat) : (startErasePulse s j t n).ageTimer = s.ageTimer := rfl
@[simp] theorem startErasePulse_regions (s : State) (j : Job) (t : Target) (n : Nat) : (startErasePulse s j t n).regions = s.regions := rfl
@[simp] theorem startErasePulse_settings (s : State) (j : Job) (t : Target) (n : Nat) : (startErasePulse s j t n).settings = s.settings := rfl
@[simp] theorem startErasePulse_port (s : State) (j : Job) (t : Target) (n : Nat) : (startErasePulse s j t n).port = s.port := rfl
@[simp] theorem startErasePulse_portAnswer (s : State) (j : Job) (t : Target) (n : Nat) : (startErasePulse s j t n).portAnswer = s.portAnswer := rfl
@[simp] theorem startErasePulse_bus (s : State) (j : Job) (t : Target) (n : Nat) : (startErasePulse s j t n).bus = s.bus := rfl
@[simp] theorem startErasePulse_frontEnd (s : State) (j : Job) (t : Target) (n : Nat) : (startErasePulse s j t n).frontEnd = s.frontEnd := rfl
@[simp] theorem startErasePulse_resetCause (s : State) (j : Job) (t : Target) (n : Nat) : (startErasePulse s j t n).resetCause = s.resetCause := rfl
@[simp] theorem startErasePulse_pwarn (s : State) (j : Job) (t : Target) (n : Nat) : (startErasePulse s j t n).pwarn = s.pwarn := rfl
@[simp] theorem startErasePulse_pwarnNoted (s : State) (j : Job) (t : Target) (n : Nat) : (startErasePulse s j t n).pwarnNoted = s.pwarnNoted := rfl
@[simp] theorem startErasePulse_resetnLow (s : State) (j : Job) (t : Target) (n : Nat) : (startErasePulse s j t n).resetnLow = s.resetnLow := rfl
@[simp] theorem startErasePulse_scan (s : State) (j : Job) (t : Target) (n : Nat) : (startErasePulse s j t n).scan = s.scan := rfl
@[simp] theorem startErasePulse_log (s : State) (j : Job) (t : Target) (n : Nat) : (startErasePulse s j t n).log = s.log := rfl
@[simp] theorem startErasePulse_link (s : State) (j : Job) (t : Target) (n : Nat) : (startErasePulse s j t n).link = s.link := rfl
@[simp] theorem startErasePulse_unit (s : State) (j : Job) (t : Target) (n : Nat) : (startErasePulse s j t n).unit = s.unit := rfl
@[simp] theorem startErasePulse_freeIndex (s : State) (j : Job) (t : Target) (n : Nat) : (startErasePulse s j t n).freeIndex = s.freeIndex := rfl

/-! ### startProgram -/

@[simp] theorem startProgram_pending (s : State) (j : Job) (cp : CellPage) (image known : Page) : (startProgram s j cp image known).pending = s.pending := rfl
@[simp] theorem startProgram_cells (s : State) (j : Job) (cp : CellPage) (image known : Page) : (startProgram s j cp image known).cells = s.cells := rfl
@[simp] theorem startProgram_op (s : State) (j : Job) (cp : CellPage) (image known : Page) : (startProgram s j cp image known).op = some (.programPulse cp (latchFor image known) .setup) := rfl
@[simp] theorem startProgram_job (s : State) (j : Job) (cp : CellPage) (image known : Page) : (startProgram s j cp image known).job = some { j with loop := some (.program cp image (latchFor image known) 1) } := rfl
@[simp] theorem startProgram_buffer (s : State) (j : Job) (cp : CellPage) (image known : Page) : (startProgram s j cp image known).buffer = s.buffer := rfl
@[simp] theorem startProgram_journals (s : State) (j : Job) (cp : CellPage) (image known : Page) : (startProgram s j cp image known).journals = s.journals := rfl
@[simp] theorem startProgram_quarantine (s : State) (j : Job) (cp : CellPage) (image known : Page) : (startProgram s j cp image known).quarantine = s.quarantine := rfl
@[simp] theorem startProgram_lines (s : State) (j : Job) (cp : CellPage) (image known : Page) : (startProgram s j cp image known).lines = s.lines := rfl
@[simp] theorem startProgram_ageList (s : State) (j : Job) (cp : CellPage) (image known : Page) : (startProgram s j cp image known).ageList = s.ageList := rfl
@[simp] theorem startProgram_commitQueue (s : State) (j : Job) (cp : CellPage) (image known : Page) : (startProgram s j cp image known).commitQueue = s.commitQueue := rfl
@[simp] theorem startProgram_ageTimer (s : State) (j : Job) (cp : CellPage) (image known : Page) : (startProgram s j cp image known).ageTimer = s.ageTimer := rfl
@[simp] theorem startProgram_regions (s : State) (j : Job) (cp : CellPage) (image known : Page) : (startProgram s j cp image known).regions = s.regions := rfl
@[simp] theorem startProgram_settings (s : State) (j : Job) (cp : CellPage) (image known : Page) : (startProgram s j cp image known).settings = s.settings := rfl
@[simp] theorem startProgram_port (s : State) (j : Job) (cp : CellPage) (image known : Page) : (startProgram s j cp image known).port = s.port := rfl
@[simp] theorem startProgram_portAnswer (s : State) (j : Job) (cp : CellPage) (image known : Page) : (startProgram s j cp image known).portAnswer = s.portAnswer := rfl
@[simp] theorem startProgram_bus (s : State) (j : Job) (cp : CellPage) (image known : Page) : (startProgram s j cp image known).bus = s.bus := rfl
@[simp] theorem startProgram_frontEnd (s : State) (j : Job) (cp : CellPage) (image known : Page) : (startProgram s j cp image known).frontEnd = s.frontEnd := rfl
@[simp] theorem startProgram_resetCause (s : State) (j : Job) (cp : CellPage) (image known : Page) : (startProgram s j cp image known).resetCause = s.resetCause := rfl
@[simp] theorem startProgram_pwarn (s : State) (j : Job) (cp : CellPage) (image known : Page) : (startProgram s j cp image known).pwarn = s.pwarn := rfl
@[simp] theorem startProgram_pwarnNoted (s : State) (j : Job) (cp : CellPage) (image known : Page) : (startProgram s j cp image known).pwarnNoted = s.pwarnNoted := rfl
@[simp] theorem startProgram_resetnLow (s : State) (j : Job) (cp : CellPage) (image known : Page) : (startProgram s j cp image known).resetnLow = s.resetnLow := rfl
@[simp] theorem startProgram_scan (s : State) (j : Job) (cp : CellPage) (image known : Page) : (startProgram s j cp image known).scan = s.scan := rfl
@[simp] theorem startProgram_log (s : State) (j : Job) (cp : CellPage) (image known : Page) : (startProgram s j cp image known).log = s.log := rfl
@[simp] theorem startProgram_link (s : State) (j : Job) (cp : CellPage) (image known : Page) : (startProgram s j cp image known).link = s.link := rfl
@[simp] theorem startProgram_unit (s : State) (j : Job) (cp : CellPage) (image known : Page) : (startProgram s j cp image known).unit = s.unit := rfl
@[simp] theorem startProgram_freeIndex (s : State) (j : Job) (cp : CellPage) (image known : Page) : (startProgram s j cp image known).freeIndex = s.freeIndex := rfl

end Sys2Proof.Machine
end

