-- ==== Sys2Proof/Laws/Staging.lean ====
section
/-! SUPPORT. What the operations of the lines and of the staging buffer leave unchanged: one lemma per operation. -/

namespace Sys2Proof.Machine

set_option Elab.async false

@[simp] theorem sealLine_frame (s : State) (i : LineNo) :
    (sealLine s i).cells = s.cells ∧ (sealLine s i).op = s.op ∧ (sealLine s i).job = s.job ∧
    (sealLine s i).buffer = s.buffer ∧ (sealLine s i).journals = s.journals ∧
    (sealLine s i).quarantine = s.quarantine ∧ (sealLine s i).ageList = s.ageList ∧
    (sealLine s i).ageTimer = s.ageTimer ∧ (sealLine s i).regions = s.regions ∧
    (sealLine s i).settings = s.settings ∧ (sealLine s i).port = s.port ∧ (sealLine s i).portAnswer = s.portAnswer ∧
    (sealLine s i).frontEnd = s.frontEnd ∧ (sealLine s i).scan = s.scan ∧ (sealLine s i).log = s.log ∧
    (sealLine s i).link = s.link ∧ (sealLine s i).unit = s.unit := by unfold sealLine; split <;> simp

@[simp] theorem sealLines_frame (s : State) (is : List LineNo) :
    (sealLines s is).cells = s.cells ∧ (sealLines s is).op = s.op ∧ (sealLines s is).job = s.job ∧
    (sealLines s is).buffer = s.buffer ∧ (sealLines s is).journals = s.journals ∧
    (sealLines s is).quarantine = s.quarantine ∧ (sealLines s is).ageList = s.ageList ∧
    (sealLines s is).ageTimer = s.ageTimer ∧ (sealLines s is).regions = s.regions ∧
    (sealLines s is).settings = s.settings ∧ (sealLines s is).port = s.port ∧
    (sealLines s is).portAnswer = s.portAnswer ∧ (sealLines s is).frontEnd = s.frontEnd ∧
    (sealLines s is).scan = s.scan ∧ (sealLines s is).log = s.log ∧ (sealLines s is).link = s.link ∧
    (sealLines s is).unit = s.unit := by unfold sealLines; induction is generalizing s <;> simp_all

@[simp] theorem sealAll_frame (s : State) :
    (sealAll s).cells = s.cells ∧ (sealAll s).op = s.op ∧ (sealAll s).job = s.job ∧ (sealAll s).buffer = s.buffer ∧
    (sealAll s).journals = s.journals ∧ (sealAll s).quarantine = s.quarantine ∧ (sealAll s).ageList = s.ageList ∧
    (sealAll s).ageTimer = s.ageTimer ∧ (sealAll s).regions = s.regions ∧ (sealAll s).settings = s.settings ∧
    (sealAll s).port = s.port ∧ (sealAll s).portAnswer = s.portAnswer ∧ (sealAll s).frontEnd = s.frontEnd ∧
    (sealAll s).scan = s.scan ∧ (sealAll s).log = s.log ∧ (sealAll s).link = s.link ∧ (sealAll s).unit = s.unit := by simp [sealAll]

@[simp] theorem openLine_frame (s : State) (i : LineNo) (p : PageNo) (w : List (Fin 64 × Byte)) :
    (openLine s i p w).cells = s.cells ∧ (openLine s i p w).op = s.op ∧ (openLine s i p w).job = s.job ∧
    (openLine s i p w).buffer = s.buffer ∧ (openLine s i p w).journals = s.journals ∧
    (openLine s i p w).quarantine = s.quarantine ∧ (openLine s i p w).commitQueue = s.commitQueue ∧
    (openLine s i p w).ageTimer = s.ageTimer ∧ (openLine s i p w).regions = s.regions ∧
    (openLine s i p w).settings = s.settings ∧ (openLine s i p w).port = s.port ∧
    (openLine s i p w).portAnswer = s.portAnswer ∧ (openLine s i p w).frontEnd = s.frontEnd ∧
    (openLine s i p w).scan = s.scan ∧ (openLine s i p w).log = s.log ∧ (openLine s i p w).link = s.link ∧
    (openLine s i p w).unit = s.unit := by simp [openLine]

@[simp] theorem refuse_frame (s : State) (t : Transaction) (r : RefusedReason) :
    (refuse s t r).cells = s.cells ∧ (refuse s t r).op = s.op ∧ (refuse s t r).job = s.job ∧
    (refuse s t r).buffer = s.buffer ∧ (refuse s t r).journals = s.journals ∧
    (refuse s t r).quarantine = s.quarantine ∧ (refuse s t r).lines = s.lines ∧ (refuse s t r).ageList = s.ageList ∧
    (refuse s t r).commitQueue = s.commitQueue ∧ (refuse s t r).ageTimer = s.ageTimer ∧
    (refuse s t r).regions = s.regions ∧ (refuse s t r).settings = s.settings ∧
    (refuse s t r).frontEnd = s.frontEnd ∧ (refuse s t r).scan = s.scan ∧ (refuse s t r).link = s.link ∧
    (refuse s t r).unit = s.unit := by unfold refuse; split <;> simp

@[simp] theorem acceptIntoLine_frame (s : State) (i : LineNo) (t : Transaction) (k : AccessKind) :
    (acceptIntoLine s i t k).cells = s.cells ∧ (acceptIntoLine s i t k).op = s.op ∧
    (acceptIntoLine s i t k).job = s.job ∧ (acceptIntoLine s i t k).buffer = s.buffer ∧
    (acceptIntoLine s i t k).journals = s.journals ∧ (acceptIntoLine s i t k).quarantine = s.quarantine ∧
    (acceptIntoLine s i t k).ageList = s.ageList ∧ (acceptIntoLine s i t k).ageTimer = s.ageTimer ∧
    (acceptIntoLine s i t k).regions = s.regions ∧ (acceptIntoLine s i t k).settings = s.settings ∧
    (acceptIntoLine s i t k).frontEnd = s.frontEnd ∧ (acceptIntoLine s i t k).scan = s.scan ∧
    (acceptIntoLine s i t k).log = s.log ∧ (acceptIntoLine s i t k).link = s.link ∧
    (acceptIntoLine s i t k).unit = s.unit := by unfold acceptIntoLine; split <;> simp

@[simp] theorem sealIfFull_frame (s : State) (i : LineNo) :
    (sealIfFull s i).cells = s.cells ∧ (sealIfFull s i).op = s.op ∧ (sealIfFull s i).job = s.job ∧
    (sealIfFull s i).buffer = s.buffer ∧ (sealIfFull s i).journals = s.journals ∧
    (sealIfFull s i).quarantine = s.quarantine ∧ (sealIfFull s i).ageList = s.ageList ∧
    (sealIfFull s i).ageTimer = s.ageTimer ∧ (sealIfFull s i).regions = s.regions ∧
    (sealIfFull s i).settings = s.settings ∧ (sealIfFull s i).port = s.port ∧
    (sealIfFull s i).portAnswer = s.portAnswer ∧ (sealIfFull s i).frontEnd = s.frontEnd ∧
    (sealIfFull s i).scan = s.scan ∧ (sealIfFull s i).log = s.log ∧ (sealIfFull s i).link = s.link ∧
    (sealIfFull s i).unit = s.unit := by unfold sealIfFull; split <;> simp

@[simp] theorem mergeWrite_frame (s : State) (i : LineNo) (t : Transaction) (k : AccessKind) :
    (mergeWrite s i t k).cells = s.cells ∧ (mergeWrite s i t k).op = s.op ∧ (mergeWrite s i t k).job = s.job ∧
    (mergeWrite s i t k).buffer = s.buffer ∧ (mergeWrite s i t k).journals = s.journals ∧
    (mergeWrite s i t k).quarantine = s.quarantine ∧ (mergeWrite s i t k).ageList = s.ageList ∧
    (mergeWrite s i t k).ageTimer = s.ageTimer ∧ (mergeWrite s i t k).regions = s.regions ∧
    (mergeWrite s i t k).settings = s.settings ∧ (mergeWrite s i t k).frontEnd = s.frontEnd ∧
    (mergeWrite s i t k).scan = s.scan ∧ (mergeWrite s i t k).log = s.log ∧ (mergeWrite s i t k).link = s.link ∧
    (mergeWrite s i t k).unit = s.unit := by simp [mergeWrite]

@[simp] theorem openForWrite_frame (s : State) (i : LineNo) (t : Transaction) (k : AccessKind) :
    (openForWrite s i t k).cells = s.cells ∧ (openForWrite s i t k).op = s.op ∧ (openForWrite s i t k).job = s.job ∧
    (openForWrite s i t k).buffer = s.buffer ∧ (openForWrite s i t k).journals = s.journals ∧
    (openForWrite s i t k).quarantine = s.quarantine ∧ (openForWrite s i t k).ageTimer = s.ageTimer ∧
    (openForWrite s i t k).regions = s.regions ∧ (openForWrite s i t k).settings = s.settings ∧
    (openForWrite s i t k).frontEnd = s.frontEnd ∧ (openForWrite s i t k).scan = s.scan ∧
    (openForWrite s i t k).log = s.log ∧ (openForWrite s i t k).link = s.link ∧
    (openForWrite s i t k).unit = s.unit := by simp [openForWrite]

@[simp] theorem pressureSeal_frame (s : State) :
    (pressureSeal s).cells = s.cells ∧ (pressureSeal s).op = s.op ∧ (pressureSeal s).job = s.job ∧
    (pressureSeal s).buffer = s.buffer ∧ (pressureSeal s).journals = s.journals ∧
    (pressureSeal s).quarantine = s.quarantine ∧ (pressureSeal s).ageList = s.ageList ∧
    (pressureSeal s).ageTimer = s.ageTimer ∧ (pressureSeal s).regions = s.regions ∧
    (pressureSeal s).settings = s.settings ∧ (pressureSeal s).port = s.port ∧
    (pressureSeal s).portAnswer = s.portAnswer ∧ (pressureSeal s).frontEnd = s.frontEnd ∧
    (pressureSeal s).scan = s.scan ∧ (pressureSeal s).log = s.log ∧ (pressureSeal s).link = s.link ∧
    (pressureSeal s).unit = s.unit := by unfold pressureSeal; split <;> simp

@[simp] theorem takeWrite_frame (s : State) (t : Transaction) (k : AccessKind) :
    (takeWrite s t k).cells = s.cells ∧ (takeWrite s t k).op = s.op ∧ (takeWrite s t k).job = s.job ∧
    (takeWrite s t k).buffer = s.buffer ∧ (takeWrite s t k).journals = s.journals ∧
    (takeWrite s t k).quarantine = s.quarantine ∧ (takeWrite s t k).ageTimer = s.ageTimer ∧
    (takeWrite s t k).regions = s.regions ∧ (takeWrite s t k).settings = s.settings ∧
    (takeWrite s t k).frontEnd = s.frontEnd ∧ (takeWrite s t k).scan = s.scan ∧ (takeWrite s t k).link = s.link ∧
    (takeWrite s t k).unit = s.unit := by
  unfold takeWrite
  repeat' split
  all_goals simp

@[simp] theorem retakeHeldWrite_frame (s : State) :
    (retakeHeldWrite s).cells = s.cells ∧ (retakeHeldWrite s).op = s.op ∧ (retakeHeldWrite s).job = s.job ∧
    (retakeHeldWrite s).buffer = s.buffer ∧ (retakeHeldWrite s).journals = s.journals ∧
    (retakeHeldWrite s).quarantine = s.quarantine ∧ (retakeHeldWrite s).ageTimer = s.ageTimer ∧
    (retakeHeldWrite s).regions = s.regions ∧ (retakeHeldWrite s).settings = s.settings ∧
    (retakeHeldWrite s).frontEnd = s.frontEnd ∧ (retakeHeldWrite s).scan = s.scan ∧
    (retakeHeldWrite s).link = s.link ∧ (retakeHeldWrite s).unit = s.unit := by
  unfold retakeHeldWrite
  repeat' split
  all_goals simp

@[simp] theorem ageLine_frame (s : State) (i : LineNo) :
    (ageLine s i).cells = s.cells ∧ (ageLine s i).op = s.op ∧ (ageLine s i).job = s.job ∧
    (ageLine s i).buffer = s.buffer ∧ (ageLine s i).journals = s.journals ∧ (ageLine s i).quarantine = s.quarantine ∧
    (ageLine s i).ageList = s.ageList ∧ (ageLine s i).ageTimer = s.ageTimer ∧ (ageLine s i).regions = s.regions ∧
    (ageLine s i).settings = s.settings ∧ (ageLine s i).port = s.port ∧ (ageLine s i).portAnswer = s.portAnswer ∧
    (ageLine s i).frontEnd = s.frontEnd ∧ (ageLine s i).scan = s.scan ∧ (ageLine s i).log = s.log ∧
    (ageLine s i).link = s.link ∧ (ageLine s i).unit = s.unit := by
  unfold ageLine
  dsimp only
  repeat' split
  all_goals simp

@[simp] theorem ageLinesFold_frame (s : State) (is : List LineNo) :
    (is.foldl ageLine s).cells = s.cells ∧ (is.foldl ageLine s).op = s.op ∧ (is.foldl ageLine s).job = s.job ∧
    (is.foldl ageLine s).buffer = s.buffer ∧ (is.foldl ageLine s).journals = s.journals ∧
    (is.foldl ageLine s).quarantine = s.quarantine ∧ (is.foldl ageLine s).ageList = s.ageList ∧
    (is.foldl ageLine s).ageTimer = s.ageTimer ∧ (is.foldl ageLine s).regions = s.regions ∧
    (is.foldl ageLine s).settings = s.settings ∧ (is.foldl ageLine s).port = s.port ∧
    (is.foldl ageLine s).portAnswer = s.portAnswer ∧ (is.foldl ageLine s).frontEnd = s.frontEnd ∧
    (is.foldl ageLine s).scan = s.scan ∧ (is.foldl ageLine s).log = s.log ∧ (is.foldl ageLine s).link = s.link ∧
    (is.foldl ageLine s).unit = s.unit := by induction is generalizing s <;> simp_all

@[simp] theorem ageLines_frame (s : State) :
    (ageLines s).cells = s.cells ∧ (ageLines s).op = s.op ∧ (ageLines s).job = s.job ∧
    (ageLines s).buffer = s.buffer ∧ (ageLines s).journals = s.journals ∧ (ageLines s).quarantine = s.quarantine ∧
    (ageLines s).ageList = s.ageList ∧ (ageLines s).ageTimer = s.ageTimer ∧ (ageLines s).regions = s.regions ∧
    (ageLines s).settings = s.settings ∧ (ageLines s).port = s.port ∧ (ageLines s).portAnswer = s.portAnswer ∧
    (ageLines s).frontEnd = s.frontEnd ∧ (ageLines s).scan = s.scan ∧ (ageLines s).log = s.log ∧
    (ageLines s).link = s.link ∧ (ageLines s).unit = s.unit := by unfold ageLines; simp

@[simp] theorem refuseHeldForLine_frame (s : State) :
    (refuseHeldForLine s).cells = s.cells ∧ (refuseHeldForLine s).op = s.op ∧ (refuseHeldForLine s).job = s.job ∧
    (refuseHeldForLine s).buffer = s.buffer ∧ (refuseHeldForLine s).journals = s.journals ∧
    (refuseHeldForLine s).quarantine = s.quarantine ∧ (refuseHeldForLine s).lines = s.lines ∧
    (refuseHeldForLine s).ageList = s.ageList ∧ (refuseHeldForLine s).commitQueue = s.commitQueue ∧
    (refuseHeldForLine s).ageTimer = s.ageTimer ∧ (refuseHeldForLine s).regions = s.regions ∧
    (refuseHeldForLine s).settings = s.settings ∧ (refuseHeldForLine s).frontEnd = s.frontEnd ∧
    (refuseHeldForLine s).scan = s.scan ∧ (refuseHeldForLine s).log = s.log ∧ (refuseHeldForLine s).link = s.link ∧
    (refuseHeldForLine s).unit = s.unit := by unfold refuseHeldForLine; split <;> simp

@[simp] theorem drainEntry_frame (s : State) :
    (drainEntry s).cells = s.cells ∧ (drainEntry s).op = s.op ∧ (drainEntry s).job = s.job ∧
    (drainEntry s).buffer = s.buffer ∧ (drainEntry s).journals = s.journals ∧
    (drainEntry s).quarantine = s.quarantine ∧ (drainEntry s).ageList = s.ageList ∧
    (drainEntry s).ageTimer = s.ageTimer ∧ (drainEntry s).regions = s.regions ∧
    (drainEntry s).settings = s.settings ∧ (drainEntry s).frontEnd = s.frontEnd ∧ (drainEntry s).scan = s.scan ∧
    (drainEntry s).log = s.log ∧ (drainEntry s).link = s.link ∧ (drainEntry s).unit = s.unit := by simp [drainEntry]

@[simp] theorem answerThrough_frame (s : State) :
    (answerThrough s).cells = s.cells ∧ (answerThrough s).op = s.op ∧ (answerThrough s).job = s.job ∧
    (answerThrough s).buffer = s.buffer ∧ (answerThrough s).journals = s.journals ∧
    (answerThrough s).quarantine = s.quarantine ∧ (answerThrough s).ageList = s.ageList ∧
    (answerThrough s).commitQueue = s.commitQueue ∧ (answerThrough s).ageTimer = s.ageTimer ∧
    (answerThrough s).regions = s.regions ∧ (answerThrough s).settings = s.settings ∧
    (answerThrough s).frontEnd = s.frontEnd ∧ (answerThrough s).scan = s.scan ∧ (answerThrough s).log = s.log ∧
    (answerThrough s).link = s.link ∧ (answerThrough s).unit = s.unit := by
  unfold answerThrough
  repeat' split
  all_goals simp

@[simp] theorem freeLines_frame (s : State) (is : List LineNo) :
    (is.foldl freeLine s).cells = s.cells ∧ (is.foldl freeLine s).op = s.op ∧ (is.foldl freeLine s).job = s.job ∧
    (is.foldl freeLine s).buffer = s.buffer ∧ (is.foldl freeLine s).journals = s.journals ∧
    (is.foldl freeLine s).quarantine = s.quarantine ∧ (is.foldl freeLine s).ageTimer = s.ageTimer ∧
    (is.foldl freeLine s).regions = s.regions ∧ (is.foldl freeLine s).settings = s.settings ∧
    (is.foldl freeLine s).port = s.port ∧ (is.foldl freeLine s).portAnswer = s.portAnswer ∧
    (is.foldl freeLine s).frontEnd = s.frontEnd ∧ (is.foldl freeLine s).scan = s.scan ∧
    (is.foldl freeLine s).log = s.log ∧ (is.foldl freeLine s).link = s.link ∧ (is.foldl freeLine s).unit = s.unit := by induction is generalizing s <;> simp_all

@[simp] theorem failLines_frame (s : State) (is : List LineNo) :
    (is.foldl failLine s).cells = s.cells ∧ (is.foldl failLine s).op = s.op ∧ (is.foldl failLine s).job = s.job ∧
    (is.foldl failLine s).buffer = s.buffer ∧ (is.foldl failLine s).journals = s.journals ∧
    (is.foldl failLine s).quarantine = s.quarantine ∧ (is.foldl failLine s).ageList = s.ageList ∧
    (is.foldl failLine s).ageTimer = s.ageTimer ∧ (is.foldl failLine s).regions = s.regions ∧
    (is.foldl failLine s).settings = s.settings ∧ (is.foldl failLine s).port = s.port ∧
    (is.foldl failLine s).portAnswer = s.portAnswer ∧ (is.foldl failLine s).frontEnd = s.frontEnd ∧
    (is.foldl failLine s).scan = s.scan ∧ (is.foldl failLine s).log = s.log ∧ (is.foldl failLine s).link = s.link ∧
    (is.foldl failLine s).unit = s.unit := by induction is generalizing s <;> simp_all

@[simp] theorem takeLines_frame (s : State) (is : List LineNo) :
    (is.foldl takeLine s).cells = s.cells ∧ (is.foldl takeLine s).op = s.op ∧ (is.foldl takeLine s).job = s.job ∧
    (is.foldl takeLine s).buffer = s.buffer ∧ (is.foldl takeLine s).journals = s.journals ∧
    (is.foldl takeLine s).quarantine = s.quarantine ∧ (is.foldl takeLine s).ageList = s.ageList ∧
    (is.foldl takeLine s).ageTimer = s.ageTimer ∧ (is.foldl takeLine s).regions = s.regions ∧
    (is.foldl takeLine s).settings = s.settings ∧ (is.foldl takeLine s).port = s.port ∧
    (is.foldl takeLine s).portAnswer = s.portAnswer ∧ (is.foldl takeLine s).frontEnd = s.frontEnd ∧
    (is.foldl takeLine s).scan = s.scan ∧ (is.foldl takeLine s).log = s.log ∧ (is.foldl takeLine s).link = s.link ∧
    (is.foldl takeLine s).unit = s.unit := by induction is generalizing s <;> simp_all

@[simp] theorem retryLinesFold_frame (s : State) (is : List LineNo) :
    (is.foldl retryLine s).cells = s.cells ∧ (is.foldl retryLine s).op = s.op ∧ (is.foldl retryLine s).job = s.job ∧
    (is.foldl retryLine s).buffer = s.buffer ∧ (is.foldl retryLine s).journals = s.journals ∧
    (is.foldl retryLine s).quarantine = s.quarantine ∧ (is.foldl retryLine s).ageList = s.ageList ∧
    (is.foldl retryLine s).ageTimer = s.ageTimer ∧ (is.foldl retryLine s).regions = s.regions ∧
    (is.foldl retryLine s).settings = s.settings ∧ (is.foldl retryLine s).port = s.port ∧
    (is.foldl retryLine s).portAnswer = s.portAnswer ∧ (is.foldl retryLine s).frontEnd = s.frontEnd ∧
    (is.foldl retryLine s).scan = s.scan ∧ (is.foldl retryLine s).log = s.log ∧
    (is.foldl retryLine s).link = s.link ∧ (is.foldl retryLine s).unit = s.unit := by induction is generalizing s <;> simp_all

@[simp] theorem handBackRetired_frame (s : State) (is : List LineNo) :
    (handBackRetired s is).cells = s.cells ∧ (handBackRetired s is).op = s.op ∧ (handBackRetired s is).job = s.job ∧
    (handBackRetired s is).buffer = s.buffer ∧ (handBackRetired s is).journals = s.journals ∧
    (handBackRetired s is).quarantine = s.quarantine ∧ (handBackRetired s is).ageTimer = s.ageTimer ∧
    (handBackRetired s is).regions = s.regions ∧ (handBackRetired s is).settings = s.settings ∧
    (handBackRetired s is).frontEnd = s.frontEnd ∧ (handBackRetired s is).scan = s.scan ∧
    (handBackRetired s is).link = s.link ∧ (handBackRetired s is).unit = s.unit := by simp [handBackRetired]

@[simp] theorem handBackFailed_frame (s : State) (is : List LineNo) :
    (handBackFailed s is).cells = s.cells ∧ (handBackFailed s is).op = s.op ∧ (handBackFailed s is).job = s.job ∧
    (handBackFailed s is).buffer = s.buffer ∧ (handBackFailed s is).journals = s.journals ∧
    (handBackFailed s is).quarantine = s.quarantine ∧ (handBackFailed s is).ageList = s.ageList ∧
    (handBackFailed s is).ageTimer = s.ageTimer ∧ (handBackFailed s is).regions = s.regions ∧
    (handBackFailed s is).settings = s.settings ∧ (handBackFailed s is).frontEnd = s.frontEnd ∧
    (handBackFailed s is).scan = s.scan ∧ (handBackFailed s is).log = s.log ∧ (handBackFailed s is).link = s.link ∧
    (handBackFailed s is).unit = s.unit := by simp [handBackFailed]

@[simp] theorem entryCascade_frame (s : State) (sec : SectorNo) :
    (entryCascade s sec).cells = s.cells ∧ (entryCascade s sec).op = s.op ∧ (entryCascade s sec).job = s.job ∧
    (entryCascade s sec).buffer = s.buffer ∧ (entryCascade s sec).journals = s.journals ∧
    (entryCascade s sec).quarantine = s.quarantine ∧ (entryCascade s sec).ageList = s.ageList ∧
    (entryCascade s sec).ageTimer = s.ageTimer ∧ (entryCascade s sec).regions = s.regions ∧
    (entryCascade s sec).settings = s.settings ∧ (entryCascade s sec).frontEnd = s.frontEnd ∧
    (entryCascade s sec).scan = s.scan ∧ (entryCascade s sec).log = s.log ∧ (entryCascade s sec).link = s.link ∧
    (entryCascade s sec).unit = s.unit := by simp [entryCascade]

@[simp] theorem retryLines_frame (s : State) (p : PageNo) :
    (retryLines s p).cells = s.cells ∧ (retryLines s p).op = s.op ∧ (retryLines s p).job = s.job ∧
    (retryLines s p).buffer = s.buffer ∧ (retryLines s p).journals = s.journals ∧
    (retryLines s p).quarantine = s.quarantine ∧ (retryLines s p).ageList = s.ageList ∧
    (retryLines s p).ageTimer = s.ageTimer ∧ (retryLines s p).regions = s.regions ∧
    (retryLines s p).settings = s.settings ∧ (retryLines s p).port = s.port ∧
    (retryLines s p).portAnswer = s.portAnswer ∧ (retryLines s p).frontEnd = s.frontEnd ∧
    (retryLines s p).scan = s.scan ∧ (retryLines s p).log = s.log ∧ (retryLines s p).link = s.link ∧
    (retryLines s p).unit = s.unit := by simp [retryLines]

@[simp] theorem discardLines_frame (s : State) (p : PageNo) :
    (discardLines s p).cells = s.cells ∧ (discardLines s p).op = s.op ∧ (discardLines s p).job = s.job ∧
    (discardLines s p).buffer = s.buffer ∧ (discardLines s p).journals = s.journals ∧
    (discardLines s p).quarantine = s.quarantine ∧ (discardLines s p).ageTimer = s.ageTimer ∧
    (discardLines s p).regions = s.regions ∧ (discardLines s p).settings = s.settings ∧
    (discardLines s p).frontEnd = s.frontEnd ∧ (discardLines s p).scan = s.scan ∧ (discardLines s p).link = s.link ∧
    (discardLines s p).unit = s.unit := by simp [discardLines]

end Sys2Proof.Machine
end

