-- ==== Sys2Proof/Laws/Jobs.lean ====
section
/-! SUPPORT. What the operations of the read path, the transmitter, the job choice, the port and front-end control leave unchanged: one lemma per operation. -/

namespace Sys2Proof.Machine

set_option Elab.async false

@[simp] theorem serveRead_frame (s : State) (t : Transaction) :
    (serveRead s t).cells = s.cells ∧ (serveRead s t).op = s.op ∧ (serveRead s t).job = s.job ∧
    (serveRead s t).buffer = s.buffer ∧ (serveRead s t).journals = s.journals ∧
    (serveRead s t).quarantine = s.quarantine ∧ (serveRead s t).lines = s.lines ∧
    (serveRead s t).ageList = s.ageList ∧ (serveRead s t).commitQueue = s.commitQueue ∧
    (serveRead s t).ageTimer = s.ageTimer ∧ (serveRead s t).regions = s.regions ∧
    (serveRead s t).settings = s.settings ∧ (serveRead s t).frontEnd = s.frontEnd ∧ (serveRead s t).scan = s.scan ∧
    (serveRead s t).log = s.log ∧ (serveRead s t).link = s.link ∧ (serveRead s t).unit = s.unit := by simp [serveRead]

@[simp] theorem takeRead_frame (s : State) (t : Transaction) (k : AccessKind) :
    (takeRead s t k).cells = s.cells ∧ (takeRead s t k).op = s.op ∧ (takeRead s t k).job = s.job ∧
    (takeRead s t k).buffer = s.buffer ∧ (takeRead s t k).journals = s.journals ∧
    (takeRead s t k).quarantine = s.quarantine ∧ (takeRead s t k).lines = s.lines ∧
    (takeRead s t k).ageList = s.ageList ∧ (takeRead s t k).commitQueue = s.commitQueue ∧
    (takeRead s t k).ageTimer = s.ageTimer ∧ (takeRead s t k).regions = s.regions ∧
    (takeRead s t k).settings = s.settings ∧ (takeRead s t k).frontEnd = s.frontEnd ∧
    (takeRead s t k).scan = s.scan ∧ (takeRead s t k).log = s.log ∧ (takeRead s t k).link = s.link ∧
    (takeRead s t k).unit = s.unit := by unfold takeRead; split <;> simp

@[simp] theorem evaluateHeldRead_frame (b : Bank) (s : State) :
    (evaluateHeldRead b s).cells = s.cells ∧ (evaluateHeldRead b s).op = s.op ∧ (evaluateHeldRead b s).job = s.job ∧
    (evaluateHeldRead b s).buffer = s.buffer ∧ (evaluateHeldRead b s).journals = s.journals ∧
    (evaluateHeldRead b s).quarantine = s.quarantine ∧ (evaluateHeldRead b s).lines = s.lines ∧
    (evaluateHeldRead b s).ageList = s.ageList ∧ (evaluateHeldRead b s).commitQueue = s.commitQueue ∧
    (evaluateHeldRead b s).ageTimer = s.ageTimer ∧ (evaluateHeldRead b s).regions = s.regions ∧
    (evaluateHeldRead b s).settings = s.settings ∧ (evaluateHeldRead b s).frontEnd = s.frontEnd ∧
    (evaluateHeldRead b s).scan = s.scan ∧ (evaluateHeldRead b s).log = s.log ∧
    (evaluateHeldRead b s).link = s.link ∧ (evaluateHeldRead b s).unit = s.unit := by
  unfold evaluateHeldRead
  repeat' split
  all_goals simp

@[simp] theorem reevaluateHeldRead_frame (s : State) :
    (reevaluateHeldRead s).cells = s.cells ∧ (reevaluateHeldRead s).op = s.op ∧ (reevaluateHeldRead s).job = s.job ∧
    (reevaluateHeldRead s).buffer = s.buffer ∧ (reevaluateHeldRead s).journals = s.journals ∧
    (reevaluateHeldRead s).quarantine = s.quarantine ∧ (reevaluateHeldRead s).lines = s.lines ∧
    (reevaluateHeldRead s).ageList = s.ageList ∧ (reevaluateHeldRead s).commitQueue = s.commitQueue ∧
    (reevaluateHeldRead s).ageTimer = s.ageTimer ∧ (reevaluateHeldRead s).regions = s.regions ∧
    (reevaluateHeldRead s).settings = s.settings ∧ (reevaluateHeldRead s).frontEnd = s.frontEnd ∧
    (reevaluateHeldRead s).scan = s.scan ∧ (reevaluateHeldRead s).log = s.log ∧
    (reevaluateHeldRead s).link = s.link ∧ (reevaluateHeldRead s).unit = s.unit := by
  unfold reevaluateHeldRead
  split
  · split <;> simp
  · simp

@[simp] theorem respond_frame (s : State) (r : Response) :
    (respond s r).cells = s.cells ∧ (respond s r).op = s.op ∧ (respond s r).job = s.job ∧
    (respond s r).buffer = s.buffer ∧ (respond s r).journals = s.journals ∧ (respond s r).quarantine = s.quarantine ∧
    (respond s r).lines = s.lines ∧ (respond s r).ageList = s.ageList ∧ (respond s r).commitQueue = s.commitQueue ∧
    (respond s r).ageTimer = s.ageTimer ∧ (respond s r).regions = s.regions ∧ (respond s r).settings = s.settings ∧
    (respond s r).port = s.port ∧ (respond s r).portAnswer = s.portAnswer ∧ (respond s r).frontEnd = s.frontEnd ∧
    (respond s r).scan = s.scan ∧ (respond s r).log = s.log ∧ (respond s r).unit = s.unit := by
  unfold respond
  repeat' split
  all_goals simp

@[simp] theorem flushTest_frame (s : State) :
    (flushTest s).cells = s.cells ∧ (flushTest s).op = s.op ∧ (flushTest s).job = s.job ∧
    (flushTest s).buffer = s.buffer ∧ (flushTest s).journals = s.journals ∧ (flushTest s).quarantine = s.quarantine ∧
    (flushTest s).lines = s.lines ∧ (flushTest s).ageList = s.ageList ∧ (flushTest s).commitQueue = s.commitQueue ∧
    (flushTest s).ageTimer = s.ageTimer ∧ (flushTest s).regions = s.regions ∧ (flushTest s).settings = s.settings ∧
    (flushTest s).port = s.port ∧ (flushTest s).portAnswer = s.portAnswer ∧ (flushTest s).frontEnd = s.frontEnd ∧
    (flushTest s).scan = s.scan ∧ (flushTest s).log = s.log := by
  unfold flushTest
  split
  · split <;> simp
  · simp

@[simp] theorem startLoadCopy_frame (s : State) (j : Job) :
    (startLoadCopy s j).cells = s.cells ∧ (startLoadCopy s j).journals = s.journals ∧
    (startLoadCopy s j).quarantine = s.quarantine ∧ (startLoadCopy s j).lines = s.lines ∧
    (startLoadCopy s j).ageList = s.ageList ∧ (startLoadCopy s j).commitQueue = s.commitQueue ∧
    (startLoadCopy s j).ageTimer = s.ageTimer ∧ (startLoadCopy s j).regions = s.regions ∧
    (startLoadCopy s j).settings = s.settings ∧ (startLoadCopy s j).port = s.port ∧
    (startLoadCopy s j).portAnswer = s.portAnswer ∧ (startLoadCopy s j).frontEnd = s.frontEnd ∧
    (startLoadCopy s j).scan = s.scan ∧ (startLoadCopy s j).log = s.log ∧ (startLoadCopy s j).link = s.link ∧
    (startLoadCopy s j).unit = s.unit := by simp [startLoadCopy]

@[simp] theorem startCloseStep_frame (s : State) (j : Job) :
    (startCloseStep s j).cells = s.cells ∧ (startCloseStep s j).buffer = s.buffer ∧
    (startCloseStep s j).journals = s.journals ∧ (startCloseStep s j).quarantine = s.quarantine ∧
    (startCloseStep s j).lines = s.lines ∧ (startCloseStep s j).ageList = s.ageList ∧
    (startCloseStep s j).commitQueue = s.commitQueue ∧ (startCloseStep s j).ageTimer = s.ageTimer ∧
    (startCloseStep s j).regions = s.regions ∧ (startCloseStep s j).settings = s.settings ∧
    (startCloseStep s j).port = s.port ∧ (startCloseStep s j).portAnswer = s.portAnswer ∧
    (startCloseStep s j).frontEnd = s.frontEnd ∧ (startCloseStep s j).scan = s.scan ∧
    (startCloseStep s j).log = s.log ∧ (startCloseStep s j).link = s.link ∧ (startCloseStep s j).unit = s.unit := by simp [startCloseStep]

@[simp] theorem startCommit_frame (s : State) (i : LineNo) (p : PageNo) :
    (startCommit s i p).cells = s.cells ∧ (startCommit s i p).buffer = s.buffer ∧
    (startCommit s i p).journals = s.journals ∧ (startCommit s i p).quarantine = s.quarantine ∧
    (startCommit s i p).ageList = s.ageList ∧ (startCommit s i p).ageTimer = s.ageTimer ∧
    (startCommit s i p).regions = s.regions ∧ (startCommit s i p).settings = s.settings ∧
    (startCommit s i p).port = s.port ∧ (startCommit s i p).portAnswer = s.portAnswer ∧
    (startCommit s i p).frontEnd = s.frontEnd ∧ (startCommit s i p).scan = s.scan ∧ (startCommit s i p).log = s.log ∧
    (startCommit s i p).link = s.link ∧ (startCommit s i p).unit = s.unit := by simp [startCommit]

@[simp] theorem startRestore_frame (s : State) (b : Bank) (sec : SectorNo) :
    (startRestore s b sec).cells = s.cells ∧ (startRestore s b sec).journals = s.journals ∧
    (startRestore s b sec).quarantine = s.quarantine ∧ (startRestore s b sec).lines = s.lines ∧
    (startRestore s b sec).ageList = s.ageList ∧ (startRestore s b sec).commitQueue = s.commitQueue ∧
    (startRestore s b sec).ageTimer = s.ageTimer ∧ (startRestore s b sec).regions = s.regions ∧
    (startRestore s b sec).settings = s.settings ∧ (startRestore s b sec).port = s.port ∧
    (startRestore s b sec).portAnswer = s.portAnswer ∧ (startRestore s b sec).frontEnd = s.frontEnd ∧
    (startRestore s b sec).scan = s.scan ∧ (startRestore s b sec).log = s.log ∧
    (startRestore s b sec).link = s.link ∧ (startRestore s b sec).unit = s.unit := by unfold startRestore; split <;> simp

@[simp] theorem startCloseJob_frame (s : State) (sec : SectorNo) :
    (startCloseJob s sec).cells = s.cells ∧ (startCloseJob s sec).buffer = s.buffer ∧
    (startCloseJob s sec).journals = s.journals ∧ (startCloseJob s sec).quarantine = s.quarantine ∧
    (startCloseJob s sec).lines = s.lines ∧ (startCloseJob s sec).ageList = s.ageList ∧
    (startCloseJob s sec).commitQueue = s.commitQueue ∧ (startCloseJob s sec).ageTimer = s.ageTimer ∧
    (startCloseJob s sec).regions = s.regions ∧ (startCloseJob s sec).settings = s.settings ∧
    (startCloseJob s sec).port = s.port ∧ (startCloseJob s sec).portAnswer = s.portAnswer ∧
    (startCloseJob s sec).frontEnd = s.frontEnd ∧ (startCloseJob s sec).scan = s.scan ∧
    (startCloseJob s sec).log = s.log ∧ (startCloseJob s sec).link = s.link ∧ (startCloseJob s sec).unit = s.unit := by simp [startCloseJob]

@[simp] theorem startReplay_frame (s : State) (j : Journal) (sec : SectorNo) :
    (startReplay s j sec).cells = s.cells ∧ (startReplay s j sec).journals = s.journals ∧
    (startReplay s j sec).quarantine = s.quarantine ∧ (startReplay s j sec).lines = s.lines ∧
    (startReplay s j sec).ageList = s.ageList ∧ (startReplay s j sec).commitQueue = s.commitQueue ∧
    (startReplay s j sec).ageTimer = s.ageTimer ∧ (startReplay s j sec).regions = s.regions ∧
    (startReplay s j sec).settings = s.settings ∧ (startReplay s j sec).port = s.port ∧
    (startReplay s j sec).portAnswer = s.portAnswer ∧ (startReplay s j sec).frontEnd = s.frontEnd ∧
    (startReplay s j sec).log = s.log ∧ (startReplay s j sec).link = s.link ∧ (startReplay s j sec).unit = s.unit := by simp [startReplay]

@[simp] theorem startChoice_frame (s : State) (c : Choice) :
    (startChoice s c).cells = s.cells ∧ (startChoice s c).journals = s.journals ∧
    (startChoice s c).quarantine = s.quarantine ∧ (startChoice s c).ageList = s.ageList ∧
    (startChoice s c).ageTimer = s.ageTimer ∧ (startChoice s c).regions = s.regions ∧
    (startChoice s c).settings = s.settings ∧ (startChoice s c).port = s.port ∧
    (startChoice s c).portAnswer = s.portAnswer ∧ (startChoice s c).frontEnd = s.frontEnd ∧
    (startChoice s c).scan = s.scan ∧ (startChoice s c).log = s.log ∧ (startChoice s c).link = s.link ∧
    (startChoice s c).unit = s.unit := by unfold startChoice; split <;> simp

@[simp] theorem chooseJob_frame (s : State) :
    (chooseJob s).cells = s.cells ∧ (chooseJob s).journals = s.journals ∧ (chooseJob s).quarantine = s.quarantine ∧
    (chooseJob s).ageList = s.ageList ∧ (chooseJob s).ageTimer = s.ageTimer ∧ (chooseJob s).regions = s.regions ∧
    (chooseJob s).settings = s.settings ∧ (chooseJob s).port = s.port ∧ (chooseJob s).portAnswer = s.portAnswer ∧
    (chooseJob s).frontEnd = s.frontEnd ∧ (chooseJob s).scan = s.scan ∧ (chooseJob s).log = s.log ∧
    (chooseJob s).link = s.link ∧ (chooseJob s).unit = s.unit := by unfold chooseJob; split <;> simp

@[simp] theorem drainTest_frame (s : State) :
    (drainTest s).cells = s.cells ∧ (drainTest s).op = s.op ∧ (drainTest s).job = s.job ∧
    (drainTest s).buffer = s.buffer ∧ (drainTest s).journals = s.journals ∧ (drainTest s).quarantine = s.quarantine ∧
    (drainTest s).lines = s.lines ∧ (drainTest s).ageList = s.ageList ∧ (drainTest s).commitQueue = s.commitQueue ∧
    (drainTest s).ageTimer = s.ageTimer ∧ (drainTest s).regions = s.regions ∧ (drainTest s).settings = s.settings ∧
    (drainTest s).port = s.port ∧ (drainTest s).portAnswer = s.portAnswer ∧ (drainTest s).scan = s.scan ∧
    (drainTest s).log = s.log ∧ (drainTest s).link = s.link ∧ (drainTest s).unit = s.unit := by unfold drainTest; split <;> simp

@[simp] theorem endJob_frame (s : State) :
    (endJob s).cells = s.cells ∧ (endJob s).journals = s.journals ∧ (endJob s).quarantine = s.quarantine ∧
    (endJob s).ageList = s.ageList ∧ (endJob s).ageTimer = s.ageTimer ∧ (endJob s).regions = s.regions ∧
    (endJob s).settings = s.settings ∧ (endJob s).port = s.port ∧ (endJob s).portAnswer = s.portAnswer ∧
    (endJob s).scan = s.scan ∧ (endJob s).log = s.log := by simp [endJob]

@[simp] theorem continueChecks_frame (s : State) (t : Transaction) (k : AccessKind) :
    (continueChecks s t k).cells = s.cells ∧ (continueChecks s t k).op = s.op ∧ (continueChecks s t k).job = s.job ∧
    (continueChecks s t k).buffer = s.buffer ∧ (continueChecks s t k).journals = s.journals ∧
    (continueChecks s t k).quarantine = s.quarantine ∧ (continueChecks s t k).ageTimer = s.ageTimer ∧
    (continueChecks s t k).regions = s.regions ∧ (continueChecks s t k).settings = s.settings ∧
    (continueChecks s t k).frontEnd = s.frontEnd ∧ (continueChecks s t k).scan = s.scan ∧
    (continueChecks s t k).link = s.link ∧ (continueChecks s t k).unit = s.unit := by
  unfold continueChecks
  repeat' split
  all_goals simp

@[simp] theorem takeTransaction_frame (s : State) (t : Transaction) :
    (takeTransaction s t).cells = s.cells ∧ (takeTransaction s t).op = s.op ∧ (takeTransaction s t).job = s.job ∧
    (takeTransaction s t).buffer = s.buffer ∧ (takeTransaction s t).journals = s.journals ∧
    (takeTransaction s t).quarantine = s.quarantine ∧ (takeTransaction s t).ageTimer = s.ageTimer ∧
    (takeTransaction s t).regions = s.regions ∧ (takeTransaction s t).settings = s.settings ∧
    (takeTransaction s t).frontEnd = s.frontEnd ∧ (takeTransaction s t).scan = s.scan ∧
    (takeTransaction s t).link = s.link ∧ (takeTransaction s t).unit = s.unit := by
  unfold takeTransaction
  repeat' split
  all_goals simp

@[simp] theorem takeNextTransaction_frame (s : State) :
    (takeNextTransaction s).cells = s.cells ∧ (takeNextTransaction s).journals = s.journals ∧
    (takeNextTransaction s).quarantine = s.quarantine ∧ (takeNextTransaction s).ageTimer = s.ageTimer ∧
    (takeNextTransaction s).regions = s.regions ∧ (takeNextTransaction s).settings = s.settings ∧
    (takeNextTransaction s).frontEnd = s.frontEnd ∧ (takeNextTransaction s).scan = s.scan ∧
    (takeNextTransaction s).link = s.link ∧ (takeNextTransaction s).unit = s.unit := by
  unfold takeNextTransaction
  split
  · split <;> simp
  · simp

@[simp] theorem startHoldResume_frame (s : State) :
    (startHoldResume s).cells = s.cells ∧ (startHoldResume s).op = s.op ∧ (startHoldResume s).job = s.job ∧
    (startHoldResume s).buffer = s.buffer ∧ (startHoldResume s).journals = s.journals ∧
    (startHoldResume s).quarantine = s.quarantine ∧ (startHoldResume s).ageTimer = s.ageTimer ∧
    (startHoldResume s).regions = s.regions ∧ (startHoldResume s).settings = s.settings ∧
    (startHoldResume s).frontEnd = s.frontEnd ∧ (startHoldResume s).scan = s.scan ∧
    (startHoldResume s).link = s.link ∧ (startHoldResume s).unit = s.unit := by
  unfold startHoldResume
  split
  · split <;> simp
  · simp

@[simp] theorem holdExpires_frame (s : State) :
    (holdExpires s).cells = s.cells ∧ (holdExpires s).op = s.op ∧ (holdExpires s).job = s.job ∧
    (holdExpires s).buffer = s.buffer ∧ (holdExpires s).journals = s.journals ∧
    (holdExpires s).quarantine = s.quarantine ∧ (holdExpires s).lines = s.lines ∧
    (holdExpires s).ageList = s.ageList ∧ (holdExpires s).commitQueue = s.commitQueue ∧
    (holdExpires s).ageTimer = s.ageTimer ∧ (holdExpires s).regions = s.regions ∧
    (holdExpires s).settings = s.settings ∧ (holdExpires s).frontEnd = s.frontEnd ∧ (holdExpires s).scan = s.scan ∧
    (holdExpires s).link = s.link ∧ (holdExpires s).unit = s.unit := by unfold holdExpires; split <;> simp

@[simp] theorem enterDraining_frame (s : State) :
    (enterDraining s).cells = s.cells ∧ (enterDraining s).op = s.op ∧ (enterDraining s).job = s.job ∧
    (enterDraining s).buffer = s.buffer ∧ (enterDraining s).journals = s.journals ∧
    (enterDraining s).quarantine = s.quarantine ∧ (enterDraining s).ageList = s.ageList ∧
    (enterDraining s).ageTimer = s.ageTimer ∧ (enterDraining s).regions = s.regions ∧
    (enterDraining s).settings = s.settings ∧ (enterDraining s).scan = s.scan ∧ (enterDraining s).log = s.log ∧
    (enterDraining s).link = s.link ∧ (enterDraining s).unit = s.unit := by simp [enterDraining]

@[simp] theorem leaveStarting_frame (s : State) :
    (leaveStarting s).cells = s.cells ∧ (leaveStarting s).op = s.op ∧ (leaveStarting s).job = s.job ∧
    (leaveStarting s).buffer = s.buffer ∧ (leaveStarting s).journals = s.journals ∧
    (leaveStarting s).quarantine = s.quarantine ∧ (leaveStarting s).ageList = s.ageList ∧
    (leaveStarting s).ageTimer = s.ageTimer ∧ (leaveStarting s).regions = s.regions ∧
    (leaveStarting s).settings = s.settings ∧ (leaveStarting s).scan = s.scan ∧ (leaveStarting s).log = s.log ∧
    (leaveStarting s).link = s.link ∧ (leaveStarting s).unit = s.unit := by unfold leaveStarting; split <;> simp

@[simp] theorem endStartup_frame (s : State) :
    (endStartup s).cells = s.cells ∧ (endStartup s).journals = s.journals ∧
    (endStartup s).quarantine = s.quarantine ∧ (endStartup s).regions = s.regions ∧
    (endStartup s).settings = s.settings ∧ (endStartup s).link = s.link ∧ (endStartup s).unit = s.unit := by simp [endStartup]

end Sys2Proof.Machine
end

