-- ==== Sys2Proof/Laws/Sequencer.lean ====
section
/-! SUPPORT. What the steps of the sequencer leave unchanged: one lemma per operation. -/

namespace Sys2Proof.Machine

set_option Elab.async false

@[simp] theorem startErase_frame (s : State) (j : Job) (t : Target) :
    (startErase s j t).cells = s.cells ∧ (startErase s j t).buffer = s.buffer ∧
    (startErase s j t).journals = s.journals ∧ (startErase s j t).quarantine = s.quarantine ∧
    (startErase s j t).lines = s.lines ∧ (startErase s j t).ageList = s.ageList ∧
    (startErase s j t).commitQueue = s.commitQueue ∧ (startErase s j t).ageTimer = s.ageTimer ∧
    (startErase s j t).regions = s.regions ∧ (startErase s j t).settings = s.settings ∧
    (startErase s j t).port = s.port ∧ (startErase s j t).portAnswer = s.portAnswer ∧
    (startErase s j t).frontEnd = s.frontEnd ∧ (startErase s j t).scan = s.scan ∧ (startErase s j t).log = s.log ∧
    (startErase s j t).link = s.link ∧ (startErase s j t).unit = s.unit := by simp [startErase]

@[simp] theorem startLoad_frame (s : State) (j : Job) :
    (startLoad s j).cells = s.cells ∧ (startLoad s j).journals = s.journals ∧
    (startLoad s j).quarantine = s.quarantine ∧ (startLoad s j).lines = s.lines ∧
    (startLoad s j).ageList = s.ageList ∧ (startLoad s j).commitQueue = s.commitQueue ∧
    (startLoad s j).ageTimer = s.ageTimer ∧ (startLoad s j).regions = s.regions ∧
    (startLoad s j).settings = s.settings ∧ (startLoad s j).port = s.port ∧
    (startLoad s j).portAnswer = s.portAnswer ∧ (startLoad s j).frontEnd = s.frontEnd ∧
    (startLoad s j).scan = s.scan ∧ (startLoad s j).log = s.log ∧ (startLoad s j).link = s.link ∧
    (startLoad s j).unit = s.unit := by simp [startLoad]

@[simp] theorem scanFourthStep_frame (s : State) :
    (scanFourthStep s).cells = s.cells ∧ (scanFourthStep s).regions = s.regions ∧
    (scanFourthStep s).settings = s.settings := by unfold scanFourthStep; split <;> simp

@[simp] theorem scanThirdStep_frame (s : State) :
    (scanThirdStep s).cells = s.cells ∧ (scanThirdStep s).regions = s.regions ∧
    (scanThirdStep s).settings = s.settings := by unfold scanThirdStep; split <;> simp

@[simp] theorem scanAfterClassification_frame (s : State) (j : Journal) :
    (scanAfterClassification s j).cells = s.cells ∧ (scanAfterClassification s j).regions = s.regions ∧
    (scanAfterClassification s j).settings = s.settings := by unfold scanAfterClassification; split <;> simp

@[simp] theorem classifyAs_frame (s : State) (j : Journal) (v : JournalState) :
    (classifyAs s j v).cells = s.cells ∧ (classifyAs s j v).regions = s.regions ∧
    (classifyAs s j v).settings = s.settings := by simp [classifyAs]

@[simp] theorem classifyCorrupt_frame (s : State) (j : Journal) (w : BitVec 16) :
    (classifyCorrupt s j w).cells = s.cells ∧ (classifyCorrupt s j w).regions = s.regions ∧
    (classifyCorrupt s j w).settings = s.settings := by simp [classifyCorrupt]

@[simp] theorem scanReadCopy_frame (s : State) (j : Journal) (g : SectorNo) (c : BitVec 16) (k : Fin 16) (w : BitVec 16) :
    (scanReadCopy s j g c k w).cells = s.cells ∧ (scanReadCopy s j g c k w).regions = s.regions ∧
    (scanReadCopy s j g c k w).settings = s.settings := by simp [scanReadCopy]

@[simp] theorem scanHeader_frame (s : State) (j : Journal) (h : Page) :
    (scanHeader s j h).cells = s.cells ∧ (scanHeader s j h).regions = s.regions ∧
    (scanHeader s j h).settings = s.settings := by
  unfold scanHeader
  repeat' split
  all_goals simp

@[simp] theorem scanCopy_frame (s : State) (j : Journal) (g : SectorNo) (c : BitVec 16) (k : Fin 16) (w : BitVec 16) (p : Page) :
    (scanCopy s j g c k w p).cells = s.cells ∧ (scanCopy s j g c k w p).regions = s.regions ∧
    (scanCopy s j g c k w p).settings = s.settings := by
  unfold scanCopy
  split
  · simp
  · split <;> simp

@[simp] theorem scanBlank_frame (s : State) (b : Bool) :
    (scanBlank s b).cells = s.cells ∧ (scanBlank s b).regions = s.regions ∧ (scanBlank s b).settings = s.settings := by
  unfold scanBlank
  split
  · split <;> simp
  · simp

@[simp] theorem scanRead_frame (s : State) (p : Page) :
    (scanRead s p).cells = s.cells ∧ (scanRead s p).regions = s.regions ∧ (scanRead s p).settings = s.settings := by unfold scanRead; split <;> simp

@[simp] theorem endReplay_frame (s : State) :
    (endReplay s).cells = s.cells ∧ (endReplay s).regions = s.regions ∧ (endReplay s).settings = s.settings := by unfold endReplay; split <;> simp

@[simp] theorem commitSucceeds_frame (s : State) (j : Job) :
    (commitSucceeds s j).cells = s.cells ∧ (commitSucceeds s j).regions = s.regions ∧
    (commitSucceeds s j).settings = s.settings := by simp [commitSucceeds]

@[simp] theorem commitFails_frame (s : State) (j : Job) (p : PageNo) (c : LoopFailure) (n : Nat) :
    (commitFails s j p c n).cells = s.cells ∧ (commitFails s j p c n).regions = s.regions ∧
    (commitFails s j p c n).settings = s.settings := by simp [commitFails]

@[simp] theorem journalEraseFails_frame (s : State) (j : Job) :
    (journalEraseFails s j).cells = s.cells ∧ (journalEraseFails s j).regions = s.regions ∧
    (journalEraseFails s j).settings = s.settings := by simp [journalEraseFails]

@[simp] theorem journalIsHeld_frame (s : State) (j : Job) (p : PageNo) :
    (journalIsHeld s j p).cells = s.cells ∧ (journalIsHeld s j p).regions = s.regions ∧
    (journalIsHeld s j p).settings = s.settings := by simp [journalIsHeld]

@[simp] theorem copyStepFails_frame (s : State) (j : Job) (f : FailedStep) (v : JournalState) :
    (copyStepFails s j f v).cells = s.cells ∧ (copyStepFails s j f v).regions = s.regions ∧
    (copyStepFails s j f v).settings = s.settings := by simp [copyStepFails]

@[simp] theorem journalCheck_frame (s : State) (j : Job) (p : PageNo) :
    (journalCheck s j p).cells = s.cells ∧ (journalCheck s j p).regions = s.regions ∧
    (journalCheck s j p).settings = s.settings := by
  unfold journalCheck
  repeat' split
  all_goals simp

@[simp] theorem startHeader_frame (s : State) (j : Job) :
    (startHeader s j).cells = s.cells ∧ (startHeader s j).buffer = s.buffer ∧
    (startHeader s j).quarantine = s.quarantine ∧ (startHeader s j).lines = s.lines ∧
    (startHeader s j).ageList = s.ageList ∧ (startHeader s j).commitQueue = s.commitQueue ∧
    (startHeader s j).ageTimer = s.ageTimer ∧ (startHeader s j).regions = s.regions ∧
    (startHeader s j).settings = s.settings ∧ (startHeader s j).port = s.port ∧
    (startHeader s j).portAnswer = s.portAnswer ∧ (startHeader s j).frontEnd = s.frontEnd ∧
    (startHeader s j).scan = s.scan ∧ (startHeader s j).log = s.log ∧ (startHeader s j).link = s.link ∧
    (startHeader s j).unit = s.unit := by simp [startHeader]

@[simp] theorem copyFrom_frame (s : State) (j : Job) (i : Image) (k : Nat) :
    (copyFrom s j i k).cells = s.cells ∧ (copyFrom s j i k).buffer = s.buffer ∧
    (copyFrom s j i k).quarantine = s.quarantine ∧ (copyFrom s j i k).lines = s.lines ∧
    (copyFrom s j i k).ageList = s.ageList ∧ (copyFrom s j i k).commitQueue = s.commitQueue ∧
    (copyFrom s j i k).ageTimer = s.ageTimer ∧ (copyFrom s j i k).regions = s.regions ∧
    (copyFrom s j i k).settings = s.settings ∧ (copyFrom s j i k).port = s.port ∧
    (copyFrom s j i k).portAnswer = s.portAnswer ∧ (copyFrom s j i k).frontEnd = s.frontEnd ∧
    (copyFrom s j i k).scan = s.scan ∧ (copyFrom s j i k).log = s.log ∧ (copyFrom s j i k).link = s.link ∧
    (copyFrom s j i k).unit = s.unit := by unfold copyFrom; split <;> simp

@[simp] theorem merge_frame (s : State) (j : Job) (i : Image) :
    (merge s j i).cells = s.cells ∧ (merge s j i).quarantine = s.quarantine ∧ (merge s j i).ageList = s.ageList ∧
    (merge s j i).ageTimer = s.ageTimer ∧ (merge s j i).regions = s.regions ∧ (merge s j i).settings = s.settings ∧
    (merge s j i).port = s.port ∧ (merge s j i).portAnswer = s.portAnswer ∧ (merge s j i).frontEnd = s.frontEnd ∧
    (merge s j i).scan = s.scan ∧ (merge s j i).log = s.log ∧ (merge s j i).link = s.link ∧
    (merge s j i).unit = s.unit := by simp [merge]

@[simp] theorem loadNext_frame (s : State) (j : Job) (k : Fin 16) (p : Page) :
    (loadNext s j k p).cells = s.cells ∧ (loadNext s j k p).quarantine = s.quarantine ∧
    (loadNext s j k p).ageList = s.ageList ∧ (loadNext s j k p).ageTimer = s.ageTimer ∧
    (loadNext s j k p).regions = s.regions ∧ (loadNext s j k p).settings = s.settings ∧
    (loadNext s j k p).port = s.port ∧ (loadNext s j k p).portAnswer = s.portAnswer ∧
    (loadNext s j k p).frontEnd = s.frontEnd ∧ (loadNext s j k p).scan = s.scan ∧ (loadNext s j k p).log = s.log ∧
    (loadNext s j k p).link = s.link ∧ (loadNext s j k p).unit = s.unit := by
  unfold loadNext
  split
  · split <;> simp
  · simp

@[simp] theorem startCopyDone_frame (s : State) (j : Job) :
    (startCopyDone s j).cells = s.cells ∧ (startCopyDone s j).buffer = s.buffer ∧
    (startCopyDone s j).journals = s.journals ∧ (startCopyDone s j).quarantine = s.quarantine ∧
    (startCopyDone s j).lines = s.lines ∧ (startCopyDone s j).ageList = s.ageList ∧
    (startCopyDone s j).commitQueue = s.commitQueue ∧ (startCopyDone s j).ageTimer = s.ageTimer ∧
    (startCopyDone s j).regions = s.regions ∧ (startCopyDone s j).settings = s.settings ∧
    (startCopyDone s j).port = s.port ∧ (startCopyDone s j).portAnswer = s.portAnswer ∧
    (startCopyDone s j).frontEnd = s.frontEnd ∧ (startCopyDone s j).scan = s.scan ∧ (startCopyDone s j).log = s.log ∧
    (startCopyDone s j).link = s.link ∧ (startCopyDone s j).unit = s.unit := by simp [startCopyDone]

@[simp] theorem startTargetErase_frame (s : State) (j : Job) :
    (startTargetErase s j).cells = s.cells ∧ (startTargetErase s j).buffer = s.buffer ∧
    (startTargetErase s j).journals = s.journals ∧ (startTargetErase s j).quarantine = s.quarantine ∧
    (startTargetErase s j).lines = s.lines ∧ (startTargetErase s j).ageList = s.ageList ∧
    (startTargetErase s j).commitQueue = s.commitQueue ∧ (startTargetErase s j).ageTimer = s.ageTimer ∧
    (startTargetErase s j).regions = s.regions ∧ (startTargetErase s j).settings = s.settings ∧
    (startTargetErase s j).port = s.port ∧ (startTargetErase s j).portAnswer = s.portAnswer ∧
    (startTargetErase s j).frontEnd = s.frontEnd ∧ (startTargetErase s j).scan = s.scan ∧
    (startTargetErase s j).log = s.log ∧ (startTargetErase s j).link = s.link ∧
    (startTargetErase s j).unit = s.unit := by simp [startTargetErase]

@[simp] theorem copyDoneSucceeds_frame (s : State) (j : Job) :
    (copyDoneSucceeds s j).cells = s.cells ∧ (copyDoneSucceeds s j).buffer = s.buffer ∧
    (copyDoneSucceeds s j).quarantine = s.quarantine ∧ (copyDoneSucceeds s j).lines = s.lines ∧
    (copyDoneSucceeds s j).ageList = s.ageList ∧ (copyDoneSucceeds s j).commitQueue = s.commitQueue ∧
    (copyDoneSucceeds s j).ageTimer = s.ageTimer ∧ (copyDoneSucceeds s j).regions = s.regions ∧
    (copyDoneSucceeds s j).settings = s.settings ∧ (copyDoneSucceeds s j).port = s.port ∧
    (copyDoneSucceeds s j).portAnswer = s.portAnswer ∧ (copyDoneSucceeds s j).frontEnd = s.frontEnd ∧
    (copyDoneSucceeds s j).scan = s.scan ∧ (copyDoneSucceeds s j).log = s.log ∧
    (copyDoneSucceeds s j).link = s.link ∧ (copyDoneSucceeds s j).unit = s.unit := by simp [copyDoneSucceeds]

@[simp] theorem retireAndClose_frame (s : State) (j : Job) :
    (retireAndClose s j).cells = s.cells ∧ (retireAndClose s j).buffer = s.buffer ∧
    (retireAndClose s j).journals = s.journals ∧ (retireAndClose s j).quarantine = s.quarantine ∧
    (retireAndClose s j).ageTimer = s.ageTimer ∧ (retireAndClose s j).regions = s.regions ∧
    (retireAndClose s j).settings = s.settings ∧ (retireAndClose s j).frontEnd = s.frontEnd ∧
    (retireAndClose s j).scan = s.scan ∧ (retireAndClose s j).link = s.link ∧ (retireAndClose s j).unit = s.unit := by simp [retireAndClose]

@[simp] theorem targetProgrammed_frame (s : State) (j : Job) :
    (targetProgrammed s j).cells = s.cells ∧ (targetProgrammed s j).buffer = s.buffer ∧
    (targetProgrammed s j).journals = s.journals ∧ (targetProgrammed s j).quarantine = s.quarantine ∧
    (targetProgrammed s j).ageTimer = s.ageTimer ∧ (targetProgrammed s j).regions = s.regions ∧
    (targetProgrammed s j).settings = s.settings ∧ (targetProgrammed s j).frontEnd = s.frontEnd ∧
    (targetProgrammed s j).scan = s.scan ∧ (targetProgrammed s j).link = s.link ∧
    (targetProgrammed s j).unit = s.unit := by unfold targetProgrammed; split <;> simp

@[simp] theorem programFrom_frame (s : State) (j : Job) (k : Nat) :
    (programFrom s j k).cells = s.cells ∧ (programFrom s j k).buffer = s.buffer ∧
    (programFrom s j k).journals = s.journals ∧ (programFrom s j k).quarantine = s.quarantine ∧
    (programFrom s j k).ageTimer = s.ageTimer ∧ (programFrom s j k).regions = s.regions ∧
    (programFrom s j k).settings = s.settings ∧ (programFrom s j k).frontEnd = s.frontEnd ∧
    (programFrom s j k).scan = s.scan ∧ (programFrom s j k).link = s.link ∧ (programFrom s j k).unit = s.unit := by
  unfold programFrom
  split
  · split <;> simp
  · simp

@[simp] theorem rewriteTargetFails_frame (s : State) (j : Job) (f : FaultStep) (n : Nat) :
    (rewriteTargetFails s j f n).cells = s.cells ∧ (rewriteTargetFails s j f n).regions = s.regions ∧
    (rewriteTargetFails s j f n).settings = s.settings := by simp [rewriteTargetFails]

@[simp] theorem rewriteCloseFails_frame (s : State) (j : Job) (n : Nat) :
    (rewriteCloseFails s j n).cells = s.cells ∧ (rewriteCloseFails s j n).regions = s.regions ∧
    (rewriteCloseFails s j n).settings = s.settings := by simp [rewriteCloseFails]

@[simp] theorem loadCopyNext_frame (s : State) (j : Job) (k : Fin 16) (p : Page) :
    (loadCopyNext s j k p).cells = s.cells ∧ (loadCopyNext s j k p).journals = s.journals ∧
    (loadCopyNext s j k p).quarantine = s.quarantine ∧ (loadCopyNext s j k p).lines = s.lines ∧
    (loadCopyNext s j k p).ageList = s.ageList ∧ (loadCopyNext s j k p).commitQueue = s.commitQueue ∧
    (loadCopyNext s j k p).ageTimer = s.ageTimer ∧ (loadCopyNext s j k p).regions = s.regions ∧
    (loadCopyNext s j k p).settings = s.settings ∧ (loadCopyNext s j k p).port = s.port ∧
    (loadCopyNext s j k p).portAnswer = s.portAnswer ∧ (loadCopyNext s j k p).frontEnd = s.frontEnd ∧
    (loadCopyNext s j k p).scan = s.scan ∧ (loadCopyNext s j k p).log = s.log ∧
    (loadCopyNext s j k p).link = s.link ∧ (loadCopyNext s j k p).unit = s.unit := by
  unfold loadCopyNext
  split
  · split <;> simp
  · simp

@[simp] theorem recoveryTargetFails_frame (s : State) (j : Job) (f : FaultStep) (n : Nat) :
    (recoveryTargetFails s j f n).cells = s.cells ∧ (recoveryTargetFails s j f n).regions = s.regions ∧
    (recoveryTargetFails s j f n).settings = s.settings := by unfold recoveryTargetFails; split <;> simp

@[simp] theorem closeStepSucceeds_frame (s : State) (j : Job) (v : JournalState) :
    (closeStepSucceeds s j v).cells = s.cells ∧ (closeStepSucceeds s j v).regions = s.regions ∧
    (closeStepSucceeds s j v).settings = s.settings := by unfold closeStepSucceeds; split <;> simp

@[simp] theorem closeStepFails_frame (s : State) (j : Job) (n : Nat) :
    (closeStepFails s j n).cells = s.cells ∧ (closeStepFails s j n).regions = s.regions ∧
    (closeStepFails s j n).settings = s.settings := by unfold closeStepFails; split <;> simp

@[simp] theorem closeHeaderRead_frame (s : State) (j : Job) (h : Page) :
    (closeHeaderRead s j h).cells = s.cells ∧ (closeHeaderRead s j h).regions = s.regions ∧
    (closeHeaderRead s j h).settings = s.settings := by unfold closeHeaderRead; split <;> simp

@[simp] theorem programSucceeds_frame (s : State) (j : Job) :
    (programSucceeds s j).cells = s.cells ∧ (programSucceeds s j).regions = s.regions ∧
    (programSucceeds s j).settings = s.settings := by
  unfold programSucceeds
  repeat' split
  all_goals simp

@[simp] theorem targetFails_frame (s : State) (j : Job) (f : FaultStep) (n : Nat) :
    (targetFails s j f n).cells = s.cells ∧ (targetFails s j f n).regions = s.regions ∧
    (targetFails s j f n).settings = s.settings := by unfold targetFails; split <;> simp

@[simp] theorem programFails_frame (s : State) (j : Job) (c : LoopFailure) (n : Nat) :
    (programFails s j c n).cells = s.cells ∧ (programFails s j c n).regions = s.regions ∧
    (programFails s j c n).settings = s.settings := by
  unfold programFails
  repeat' split
  all_goals simp

@[simp] theorem eraseSucceeds_frame (s : State) (j : Job) :
    (eraseSucceeds s j).cells = s.cells ∧ (eraseSucceeds s j).regions = s.regions ∧
    (eraseSucceeds s j).settings = s.settings := by
  unfold eraseSucceeds
  repeat' split
  all_goals simp

@[simp] theorem eraseFails_frame (s : State) (j : Job) (n : Nat) :
    (eraseFails s j n).cells = s.cells ∧ (eraseFails s j n).regions = s.regions ∧
    (eraseFails s j n).settings = s.settings := by
  unfold eraseFails
  repeat' split
  all_goals simp

@[simp] theorem fillLine_frame (s : State) (i : LineNo) (p : Page) :
    (fillLine s i p).cells = s.cells ∧ (fillLine s i p).op = s.op ∧ (fillLine s i p).job = s.job ∧
    (fillLine s i p).buffer = s.buffer ∧ (fillLine s i p).journals = s.journals ∧
    (fillLine s i p).quarantine = s.quarantine ∧ (fillLine s i p).ageList = s.ageList ∧
    (fillLine s i p).commitQueue = s.commitQueue ∧ (fillLine s i p).ageTimer = s.ageTimer ∧
    (fillLine s i p).regions = s.regions ∧ (fillLine s i p).settings = s.settings ∧ (fillLine s i p).port = s.port ∧
    (fillLine s i p).portAnswer = s.portAnswer ∧ (fillLine s i p).frontEnd = s.frontEnd ∧
    (fillLine s i p).scan = s.scan ∧ (fillLine s i p).log = s.log ∧ (fillLine s i p).link = s.link ∧
    (fillLine s i p).unit = s.unit := by simp [fillLine]

@[simp] theorem nextProgramPulse_frame (s : State) (j : Job) (cp : CellPage) (i v : Page) (n : Nat) :
    (nextProgramPulse s j cp i v n).cells = s.cells ∧ (nextProgramPulse s j cp i v n).buffer = s.buffer ∧
    (nextProgramPulse s j cp i v n).journals = s.journals ∧
    (nextProgramPulse s j cp i v n).quarantine = s.quarantine ∧ (nextProgramPulse s j cp i v n).lines = s.lines ∧
    (nextProgramPulse s j cp i v n).ageList = s.ageList ∧
    (nextProgramPulse s j cp i v n).commitQueue = s.commitQueue ∧
    (nextProgramPulse s j cp i v n).ageTimer = s.ageTimer ∧ (nextProgramPulse s j cp i v n).regions = s.regions ∧
    (nextProgramPulse s j cp i v n).settings = s.settings ∧ (nextProgramPulse s j cp i v n).port = s.port ∧
    (nextProgramPulse s j cp i v n).portAnswer = s.portAnswer ∧
    (nextProgramPulse s j cp i v n).frontEnd = s.frontEnd ∧ (nextProgramPulse s j cp i v n).scan = s.scan ∧
    (nextProgramPulse s j cp i v n).log = s.log ∧ (nextProgramPulse s j cp i v n).link = s.link ∧
    (nextProgramPulse s j cp i v n).unit = s.unit := by simp [nextProgramPulse]

@[simp] theorem preReadDone_frame (s : State) (j : Job) (p : Page) :
    (preReadDone s j p).cells = s.cells ∧ (preReadDone s j p).regions = s.regions ∧
    (preReadDone s j p).settings = s.settings := by
  unfold preReadDone
  dsimp only
  repeat' split
  all_goals simp

@[simp] theorem verifyDone_frame (s : State) (j : Job) (cp : CellPage) (i : Page) (n : Nat) (p : Page) :
    (verifyDone s j cp i n p).cells = s.cells ∧ (verifyDone s j cp i n p).regions = s.regions ∧
    (verifyDone s j cp i n p).settings = s.settings := by unfold verifyDone; split <;> simp

@[simp] theorem jobReads_frame (s : State) (j : Job) (p : Page) :
    (jobReads s j p).cells = s.cells ∧ (jobReads s j p).regions = s.regions ∧
    (jobReads s j p).settings = s.settings := by
  unfold jobReads
  repeat' split
  all_goals simp

@[simp] theorem jobBlankCheck_frame (s : State) (j : Job) (b : Bool) :
    (jobBlankCheck s j b).cells = s.cells ∧ (jobBlankCheck s j b).regions = s.regions ∧
    (jobBlankCheck s j b).settings = s.settings := by
  unfold jobBlankCheck
  repeat' split
  all_goals simp

@[simp] theorem readPageDelivered_frame (s : State) (cp : CellPage) :
    (readPageDelivered s cp).cells = s.cells ∧ (readPageDelivered s cp).regions = s.regions ∧
    (readPageDelivered s cp).settings = s.settings := by unfold readPageDelivered; split <;> simp

@[simp] theorem blankCheckDelivered_frame (s : State) (t : Target) :
    (blankCheckDelivered s t).cells = s.cells ∧ (blankCheckDelivered s t).regions = s.regions ∧
    (blankCheckDelivered s t).settings = s.settings := by unfold blankCheckDelivered; split <;> simp

@[simp] theorem pulseDelivered_frame (s : State) :
    (pulseDelivered s).cells = s.cells ∧ (pulseDelivered s).job = s.job ∧ (pulseDelivered s).buffer = s.buffer ∧
    (pulseDelivered s).journals = s.journals ∧ (pulseDelivered s).quarantine = s.quarantine ∧
    (pulseDelivered s).lines = s.lines ∧ (pulseDelivered s).ageList = s.ageList ∧
    (pulseDelivered s).commitQueue = s.commitQueue ∧ (pulseDelivered s).ageTimer = s.ageTimer ∧
    (pulseDelivered s).regions = s.regions ∧ (pulseDelivered s).settings = s.settings ∧
    (pulseDelivered s).port = s.port ∧ (pulseDelivered s).portAnswer = s.portAnswer ∧
    (pulseDelivered s).frontEnd = s.frontEnd ∧ (pulseDelivered s).scan = s.scan ∧ (pulseDelivered s).log = s.log ∧
    (pulseDelivered s).link = s.link ∧ (pulseDelivered s).unit = s.unit := by
  unfold pulseDelivered
  split
  · split <;> simp
  · simp

@[simp] theorem setupExpires_frame (s : State) :
    (setupExpires s).cells = s.cells ∧ (setupExpires s).job = s.job ∧ (setupExpires s).buffer = s.buffer ∧
    (setupExpires s).journals = s.journals ∧ (setupExpires s).quarantine = s.quarantine ∧
    (setupExpires s).lines = s.lines ∧ (setupExpires s).ageList = s.ageList ∧
    (setupExpires s).commitQueue = s.commitQueue ∧ (setupExpires s).ageTimer = s.ageTimer ∧
    (setupExpires s).regions = s.regions ∧ (setupExpires s).settings = s.settings ∧ (setupExpires s).port = s.port ∧
    (setupExpires s).portAnswer = s.portAnswer ∧ (setupExpires s).frontEnd = s.frontEnd ∧
    (setupExpires s).scan = s.scan ∧ (setupExpires s).log = s.log ∧ (setupExpires s).link = s.link ∧
    (setupExpires s).unit = s.unit := by unfold setupExpires; split <;> simp

@[simp] theorem pulseExpires_frame (s : State) (l : PulseResidue) :
    (pulseExpires s l).job = s.job ∧ (pulseExpires s l).buffer = s.buffer ∧
    (pulseExpires s l).journals = s.journals ∧ (pulseExpires s l).quarantine = s.quarantine ∧
    (pulseExpires s l).lines = s.lines ∧ (pulseExpires s l).ageList = s.ageList ∧
    (pulseExpires s l).commitQueue = s.commitQueue ∧ (pulseExpires s l).ageTimer = s.ageTimer ∧
    (pulseExpires s l).regions = s.regions ∧ (pulseExpires s l).settings = s.settings ∧
    (pulseExpires s l).port = s.port ∧ (pulseExpires s l).portAnswer = s.portAnswer ∧
    (pulseExpires s l).frontEnd = s.frontEnd ∧ (pulseExpires s l).scan = s.scan ∧ (pulseExpires s l).log = s.log ∧
    (pulseExpires s l).link = s.link ∧ (pulseExpires s l).unit = s.unit := by unfold pulseExpires; split <;> simp

@[simp] theorem holdExpiresInPhase_frame (s : State) :
    (holdExpiresInPhase s).cells = s.cells ∧ (holdExpiresInPhase s).job = s.job ∧
    (holdExpiresInPhase s).buffer = s.buffer ∧ (holdExpiresInPhase s).journals = s.journals ∧
    (holdExpiresInPhase s).quarantine = s.quarantine ∧ (holdExpiresInPhase s).lines = s.lines ∧
    (holdExpiresInPhase s).ageList = s.ageList ∧ (holdExpiresInPhase s).commitQueue = s.commitQueue ∧
    (holdExpiresInPhase s).ageTimer = s.ageTimer ∧ (holdExpiresInPhase s).regions = s.regions ∧
    (holdExpiresInPhase s).settings = s.settings ∧ (holdExpiresInPhase s).frontEnd = s.frontEnd ∧
    (holdExpiresInPhase s).scan = s.scan ∧ (holdExpiresInPhase s).log = s.log ∧
    (holdExpiresInPhase s).link = s.link ∧ (holdExpiresInPhase s).unit = s.unit := by unfold holdExpiresInPhase; split <;> simp

@[simp] theorem readPageCompletes_frame (s : State) :
    (readPageCompletes s).cells = s.cells ∧ (readPageCompletes s).regions = s.regions ∧
    (readPageCompletes s).settings = s.settings := by unfold readPageCompletes; split <;> simp

@[simp] theorem blankCheckCompletes_frame (s : State) :
    (blankCheckCompletes s).cells = s.cells ∧ (blankCheckCompletes s).regions = s.regions ∧
    (blankCheckCompletes s).settings = s.settings := by unfold blankCheckCompletes; split <;> simp

end Sys2Proof.Machine
end

