-- ==== Sys2Proof/Laws/CommandUnit.lean ====
section
/-! SUPPORT. What the commands of the command unit leave unchanged: one lemma per operation. -/

namespace Sys2Proof.Machine

set_option Elab.async false

@[simp] theorem answerStatus_frame (s : State) (st : Status) (tag : Byte) :
    (answerStatus s st tag).cells = s.cells ∧ (answerStatus s st tag).op = s.op ∧
    (answerStatus s st tag).job = s.job ∧ (answerStatus s st tag).buffer = s.buffer ∧
    (answerStatus s st tag).journals = s.journals ∧ (answerStatus s st tag).quarantine = s.quarantine ∧
    (answerStatus s st tag).lines = s.lines ∧ (answerStatus s st tag).ageList = s.ageList ∧
    (answerStatus s st tag).commitQueue = s.commitQueue ∧ (answerStatus s st tag).ageTimer = s.ageTimer ∧
    (answerStatus s st tag).regions = s.regions ∧ (answerStatus s st tag).settings = s.settings ∧
    (answerStatus s st tag).port = s.port ∧ (answerStatus s st tag).portAnswer = s.portAnswer ∧
    (answerStatus s st tag).frontEnd = s.frontEnd ∧ (answerStatus s st tag).scan = s.scan ∧
    (answerStatus s st tag).log = s.log ∧ (answerStatus s st tag).unit = s.unit := by simp [answerStatus]

@[simp] theorem runIdent_frame (s : State) (tag : Byte) :
    (runIdent s tag).cells = s.cells ∧ (runIdent s tag).op = s.op ∧ (runIdent s tag).job = s.job ∧
    (runIdent s tag).buffer = s.buffer ∧ (runIdent s tag).journals = s.journals ∧
    (runIdent s tag).quarantine = s.quarantine ∧ (runIdent s tag).lines = s.lines ∧
    (runIdent s tag).ageList = s.ageList ∧ (runIdent s tag).commitQueue = s.commitQueue ∧
    (runIdent s tag).ageTimer = s.ageTimer ∧ (runIdent s tag).regions = s.regions ∧
    (runIdent s tag).settings = s.settings ∧ (runIdent s tag).port = s.port ∧
    (runIdent s tag).portAnswer = s.portAnswer ∧ (runIdent s tag).frontEnd = s.frontEnd ∧
    (runIdent s tag).scan = s.scan ∧ (runIdent s tag).log = s.log ∧ (runIdent s tag).unit = s.unit := by simp [runIdent]

@[simp] theorem runStatus_frame (s : State) (tag : Byte) :
    (runStatus s tag).cells = s.cells ∧ (runStatus s tag).op = s.op ∧ (runStatus s tag).job = s.job ∧
    (runStatus s tag).buffer = s.buffer ∧ (runStatus s tag).journals = s.journals ∧
    (runStatus s tag).quarantine = s.quarantine ∧ (runStatus s tag).lines = s.lines ∧
    (runStatus s tag).ageList = s.ageList ∧ (runStatus s tag).commitQueue = s.commitQueue ∧
    (runStatus s tag).ageTimer = s.ageTimer ∧ (runStatus s tag).regions = s.regions ∧
    (runStatus s tag).settings = s.settings ∧ (runStatus s tag).port = s.port ∧
    (runStatus s tag).portAnswer = s.portAnswer ∧ (runStatus s tag).frontEnd = s.frontEnd ∧
    (runStatus s tag).scan = s.scan ∧ (runStatus s tag).log = s.log ∧ (runStatus s tag).unit = s.unit := by simp [runStatus]

@[simp] theorem runGetRegion_frame (s : State) (tag n : Byte) :
    (runGetRegion s tag n).cells = s.cells ∧ (runGetRegion s tag n).op = s.op ∧ (runGetRegion s tag n).job = s.job ∧
    (runGetRegion s tag n).buffer = s.buffer ∧ (runGetRegion s tag n).journals = s.journals ∧
    (runGetRegion s tag n).quarantine = s.quarantine ∧ (runGetRegion s tag n).lines = s.lines ∧
    (runGetRegion s tag n).ageList = s.ageList ∧ (runGetRegion s tag n).commitQueue = s.commitQueue ∧
    (runGetRegion s tag n).ageTimer = s.ageTimer ∧ (runGetRegion s tag n).regions = s.regions ∧
    (runGetRegion s tag n).settings = s.settings ∧ (runGetRegion s tag n).port = s.port ∧
    (runGetRegion s tag n).portAnswer = s.portAnswer ∧ (runGetRegion s tag n).frontEnd = s.frontEnd ∧
    (runGetRegion s tag n).scan = s.scan ∧ (runGetRegion s tag n).log = s.log ∧
    (runGetRegion s tag n).unit = s.unit := by unfold runGetRegion; split <;> simp

@[simp] theorem runSetRegion_frame (s : State) (tag n v : Byte) (b l : BitVec 16) (k d : Byte) :
    (runSetRegion s tag n v b l k d).cells = s.cells ∧ (runSetRegion s tag n v b l k d).op = s.op ∧
    (runSetRegion s tag n v b l k d).job = s.job ∧ (runSetRegion s tag n v b l k d).buffer = s.buffer ∧
    (runSetRegion s tag n v b l k d).journals = s.journals ∧
    (runSetRegion s tag n v b l k d).quarantine = s.quarantine ∧ (runSetRegion s tag n v b l k d).lines = s.lines ∧
    (runSetRegion s tag n v b l k d).ageList = s.ageList ∧
    (runSetRegion s tag n v b l k d).commitQueue = s.commitQueue ∧
    (runSetRegion s tag n v b l k d).ageTimer = s.ageTimer ∧ (runSetRegion s tag n v b l k d).settings = s.settings ∧
    (runSetRegion s tag n v b l k d).port = s.port ∧ (runSetRegion s tag n v b l k d).portAnswer = s.portAnswer ∧
    (runSetRegion s tag n v b l k d).frontEnd = s.frontEnd ∧ (runSetRegion s tag n v b l k d).scan = s.scan ∧
    (runSetRegion s tag n v b l k d).log = s.log ∧ (runSetRegion s tag n v b l k d).unit = s.unit := by
  unfold runSetRegion
  split
  · split <;> simp
  · simp

@[simp] theorem runGetSettings_frame (s : State) (tag : Byte) :
    (runGetSettings s tag).cells = s.cells ∧ (runGetSettings s tag).op = s.op ∧ (runGetSettings s tag).job = s.job ∧
    (runGetSettings s tag).buffer = s.buffer ∧ (runGetSettings s tag).journals = s.journals ∧
    (runGetSettings s tag).quarantine = s.quarantine ∧ (runGetSettings s tag).lines = s.lines ∧
    (runGetSettings s tag).ageList = s.ageList ∧ (runGetSettings s tag).commitQueue = s.commitQueue ∧
    (runGetSettings s tag).ageTimer = s.ageTimer ∧ (runGetSettings s tag).regions = s.regions ∧
    (runGetSettings s tag).settings = s.settings ∧ (runGetSettings s tag).port = s.port ∧
    (runGetSettings s tag).portAnswer = s.portAnswer ∧ (runGetSettings s tag).frontEnd = s.frontEnd ∧
    (runGetSettings s tag).scan = s.scan ∧ (runGetSettings s tag).log = s.log ∧
    (runGetSettings s tag).unit = s.unit := by simp [runGetSettings]

@[simp] theorem runSetSetting_frame (s : State) (tag f v : Byte) :
    (runSetSetting s tag f v).cells = s.cells ∧ (runSetSetting s tag f v).op = s.op ∧
    (runSetSetting s tag f v).job = s.job ∧ (runSetSetting s tag f v).buffer = s.buffer ∧
    (runSetSetting s tag f v).journals = s.journals ∧ (runSetSetting s tag f v).quarantine = s.quarantine ∧
    (runSetSetting s tag f v).lines = s.lines ∧ (runSetSetting s tag f v).ageList = s.ageList ∧
    (runSetSetting s tag f v).commitQueue = s.commitQueue ∧ (runSetSetting s tag f v).ageTimer = s.ageTimer ∧
    (runSetSetting s tag f v).regions = s.regions ∧ (runSetSetting s tag f v).port = s.port ∧
    (runSetSetting s tag f v).portAnswer = s.portAnswer ∧ (runSetSetting s tag f v).frontEnd = s.frontEnd ∧
    (runSetSetting s tag f v).scan = s.scan ∧ (runSetSetting s tag f v).log = s.log ∧
    (runSetSetting s tag f v).unit = s.unit := by unfold runSetSetting; split <;> simp

@[simp] theorem deferResponse_frame (s : State) (tag : Byte) :
    (deferResponse s tag).cells = s.cells ∧ (deferResponse s tag).op = s.op ∧
    (deferResponse s tag).job = s.job ∧ (deferResponse s tag).buffer = s.buffer ∧
    (deferResponse s tag).journals = s.journals ∧ (deferResponse s tag).quarantine = s.quarantine ∧
    (deferResponse s tag).lines = s.lines ∧ (deferResponse s tag).ageList = s.ageList ∧
    (deferResponse s tag).commitQueue = s.commitQueue ∧ (deferResponse s tag).ageTimer = s.ageTimer ∧
    (deferResponse s tag).regions = s.regions ∧ (deferResponse s tag).settings = s.settings ∧
    (deferResponse s tag).port = s.port ∧ (deferResponse s tag).portAnswer = s.portAnswer ∧
    (deferResponse s tag).frontEnd = s.frontEnd ∧ (deferResponse s tag).scan = s.scan ∧
    (deferResponse s tag).log = s.log := by
  unfold deferResponse
  split <;> simp

@[simp] theorem runFlush_frame (s : State) (tag w : Byte) :
    (runFlush s tag w).cells = s.cells ∧ (runFlush s tag w).journals = s.journals ∧
    (runFlush s tag w).quarantine = s.quarantine ∧ (runFlush s tag w).ageList = s.ageList ∧
    (runFlush s tag w).ageTimer = s.ageTimer ∧ (runFlush s tag w).regions = s.regions ∧
    (runFlush s tag w).settings = s.settings ∧ (runFlush s tag w).port = s.port ∧
    (runFlush s tag w).portAnswer = s.portAnswer ∧ (runFlush s tag w).frontEnd = s.frontEnd ∧
    (runFlush s tag w).scan = s.scan ∧ (runFlush s tag w).log = s.log := by
  unfold runFlush
  repeat' split
  all_goals simp

@[simp] theorem runReadFault_frame (s : State) (tag : Byte) :
    (runReadFault s tag).cells = s.cells ∧ (runReadFault s tag).op = s.op ∧ (runReadFault s tag).job = s.job ∧
    (runReadFault s tag).buffer = s.buffer ∧ (runReadFault s tag).journals = s.journals ∧
    (runReadFault s tag).quarantine = s.quarantine ∧ (runReadFault s tag).lines = s.lines ∧
    (runReadFault s tag).ageList = s.ageList ∧ (runReadFault s tag).commitQueue = s.commitQueue ∧
    (runReadFault s tag).ageTimer = s.ageTimer ∧ (runReadFault s tag).regions = s.regions ∧
    (runReadFault s tag).settings = s.settings ∧ (runReadFault s tag).port = s.port ∧
    (runReadFault s tag).portAnswer = s.portAnswer ∧ (runReadFault s tag).frontEnd = s.frontEnd ∧
    (runReadFault s tag).scan = s.scan ∧ (runReadFault s tag).log = s.log ∧ (runReadFault s tag).unit = s.unit := by unfold runReadFault; split <;> simp

@[simp] theorem runAckFault_frame (s : State) (tag : Byte) (q : BitVec 16) (c : Byte) :
    (runAckFault s tag q c).cells = s.cells ∧ (runAckFault s tag q c).op = s.op ∧
    (runAckFault s tag q c).job = s.job ∧ (runAckFault s tag q c).buffer = s.buffer ∧
    (runAckFault s tag q c).journals = s.journals ∧ (runAckFault s tag q c).quarantine = s.quarantine ∧
    (runAckFault s tag q c).lines = s.lines ∧ (runAckFault s tag q c).ageList = s.ageList ∧
    (runAckFault s tag q c).commitQueue = s.commitQueue ∧ (runAckFault s tag q c).ageTimer = s.ageTimer ∧
    (runAckFault s tag q c).regions = s.regions ∧ (runAckFault s tag q c).settings = s.settings ∧
    (runAckFault s tag q c).port = s.port ∧ (runAckFault s tag q c).portAnswer = s.portAnswer ∧
    (runAckFault s tag q c).frontEnd = s.frontEnd ∧ (runAckFault s tag q c).scan = s.scan ∧
    (runAckFault s tag q c).unit = s.unit := by
  unfold runAckFault
  repeat' split
  all_goals simp

@[simp] theorem runRetryPage_frame (s : State) (tag : Byte) (w : BitVec 16) :
    (runRetryPage s tag w).cells = s.cells ∧ (runRetryPage s tag w).journals = s.journals ∧
    (runRetryPage s tag w).quarantine = s.quarantine ∧ (runRetryPage s tag w).ageList = s.ageList ∧
    (runRetryPage s tag w).ageTimer = s.ageTimer ∧ (runRetryPage s tag w).regions = s.regions ∧
    (runRetryPage s tag w).settings = s.settings ∧ (runRetryPage s tag w).port = s.port ∧
    (runRetryPage s tag w).portAnswer = s.portAnswer ∧ (runRetryPage s tag w).frontEnd = s.frontEnd ∧
    (runRetryPage s tag w).scan = s.scan ∧ (runRetryPage s tag w).log = s.log ∧
    (runRetryPage s tag w).unit = s.unit := by
  unfold runRetryPage
  repeat' split
  all_goals simp

@[simp] theorem runDiscardPage_frame (s : State) (tag : Byte) (w : BitVec 16) :
    (runDiscardPage s tag w).cells = s.cells ∧ (runDiscardPage s tag w).journals = s.journals ∧
    (runDiscardPage s tag w).quarantine = s.quarantine ∧ (runDiscardPage s tag w).ageTimer = s.ageTimer ∧
    (runDiscardPage s tag w).regions = s.regions ∧ (runDiscardPage s tag w).settings = s.settings ∧
    (runDiscardPage s tag w).frontEnd = s.frontEnd ∧ (runDiscardPage s tag w).scan = s.scan ∧
    (runDiscardPage s tag w).unit = s.unit := by
  unfold runDiscardPage
  repeat' split
  all_goals simp

@[simp] theorem setPending_frame (s : State) (b : Bank) (p : PendingJob) :
    (setPending s b p).cells = s.cells ∧ (setPending s b p).journals = s.journals ∧
    (setPending s b p).ageList = s.ageList ∧ (setPending s b p).ageTimer = s.ageTimer ∧
    (setPending s b p).regions = s.regions ∧ (setPending s b p).settings = s.settings ∧
    (setPending s b p).port = s.port ∧ (setPending s b p).portAnswer = s.portAnswer ∧
    (setPending s b p).frontEnd = s.frontEnd ∧ (setPending s b p).scan = s.scan ∧ (setPending s b p).log = s.log ∧
    (setPending s b p).link = s.link ∧ (setPending s b p).unit = s.unit := by simp [setPending]

@[simp] theorem runRecovery_frame (s : State) (tag b : Byte) (p : PendingJob) :
    (runRecovery s tag b p).cells = s.cells ∧ (runRecovery s tag b p).journals = s.journals ∧
    (runRecovery s tag b p).ageList = s.ageList ∧ (runRecovery s tag b p).ageTimer = s.ageTimer ∧
    (runRecovery s tag b p).regions = s.regions ∧ (runRecovery s tag b p).settings = s.settings ∧
    (runRecovery s tag b p).port = s.port ∧ (runRecovery s tag b p).portAnswer = s.portAnswer ∧
    (runRecovery s tag b p).frontEnd = s.frontEnd ∧ (runRecovery s tag b p).scan = s.scan ∧
    (runRecovery s tag b p).log = s.log ∧ (runRecovery s tag b p).unit = s.unit := by
  unfold runRecovery
  repeat' split
  all_goals simp

@[simp] theorem runResetPart_frame (s : State) (tag : Byte) :
    (runResetPart s tag).cells = s.cells ∧ (runResetPart s tag).op = s.op ∧ (runResetPart s tag).job = s.job ∧
    (runResetPart s tag).buffer = s.buffer ∧ (runResetPart s tag).journals = s.journals ∧
    (runResetPart s tag).quarantine = s.quarantine ∧ (runResetPart s tag).lines = s.lines ∧
    (runResetPart s tag).ageList = s.ageList ∧ (runResetPart s tag).commitQueue = s.commitQueue ∧
    (runResetPart s tag).ageTimer = s.ageTimer ∧ (runResetPart s tag).regions = s.regions ∧
    (runResetPart s tag).settings = s.settings ∧ (runResetPart s tag).port = s.port ∧
    (runResetPart s tag).portAnswer = s.portAnswer ∧ (runResetPart s tag).frontEnd = s.frontEnd ∧
    (runResetPart s tag).scan = s.scan ∧ (runResetPart s tag).log = s.log := by
  unfold runResetPart
  repeat' split
  all_goals simp

@[simp] theorem runCommand_frame (s : State) (cmd tag : Byte) (args : List Byte) :
    (runCommand s cmd tag args).cells = s.cells ∧ (runCommand s cmd tag args).journals = s.journals ∧
    (runCommand s cmd tag args).ageTimer = s.ageTimer ∧ (runCommand s cmd tag args).frontEnd = s.frontEnd ∧
    (runCommand s cmd tag args).scan = s.scan := by
  unfold runCommand
  repeat' split
  all_goals simp

@[simp] theorem executeFrame_frame (s : State) (f : Frame) :
    (executeFrame s f).cells = s.cells ∧ (executeFrame s f).journals = s.journals ∧
    (executeFrame s f).ageTimer = s.ageTimer ∧ (executeFrame s f).frontEnd = s.frontEnd ∧
    (executeFrame s f).scan = s.scan := by
  unfold executeFrame
  repeat' split
  all_goals simp

end Sys2Proof.Machine
end

