-- ==== Sys2Proof/Laws/Lines.lean ====
section
/-! SUPPORT. What each operation on lines leaves in every line, in the age list and in the commit queue. -/

namespace Sys2Proof.Machine

set_option Elab.async false

/-- The lines after one has been replaced. -/
theorem lines_set_get (v : Vector Line 8) (i k : LineNo) (l : Line) :
    (v.set i l)[k] = if k = i then l else v[k] := by
  by_cases h : k = i
  · subst h
    simp
  · rw [if_neg h]
    exact Vector.getElem_set_ne i.2 k.2 (fun e => h (Fin.ext e.symm))

theorem updateLine_get (s : State) (i k : LineNo) (f : Line → Line) :
    (updateLine s i f).lines[k] = if k = i then f s.lines[k] else s.lines[k] := by
  rw [updateLine_lines, lines_set_get]
  split
  · next h => rw [h]
  · rfl

theorem sealLine_get (s : State) (i k : LineNo) :
    (sealLine s i).lines[k] =
      if k = i ∧ s.lines[k].state = .open then { s.lines[k] with state := .sealed } else s.lines[k] := by
  unfold sealLine
  by_cases h : s.lines[i].state = .open
  · rw [if_pos h]
    show (s.lines.set i { s.lines[i] with state := .sealed })[k] = _
    rw [lines_set_get]
    by_cases e : k = i
    · subst e
      simp [-Fin.getElem_fin, h]
    · simp [-Fin.getElem_fin, e]
  · rw [if_neg h]
    by_cases e : k = i
    · subst e
      simp [-Fin.getElem_fin, h]
    · simp [-Fin.getElem_fin, e]

theorem sealLine_commitQueue (s : State) (i : LineNo) :
    (sealLine s i).commitQueue = if s.lines[i].state = .open then s.commitQueue ++ [i] else s.commitQueue := by
  unfold sealLine
  split <;> rfl

/-- Sealing several lines seals those that are OPEN. -/
theorem sealLines_get (s : State) (is : List LineNo) (k : LineNo) :
    (sealLines s is).lines[k] =
      if k ∈ is ∧ s.lines[k].state = .open then { s.lines[k] with state := .sealed } else s.lines[k] := by
  unfold sealLines
  induction is generalizing s with
  | nil => simp [-Fin.getElem_fin]
  | cons i is ih =>
    rw [List.foldl_cons, ih, sealLine_get]
    by_cases e : k = i
    · subst e
      by_cases h : s.lines[k].state = .open <;> simp [-Fin.getElem_fin, h]
    · simp [-Fin.getElem_fin, e]

/-- Sealing several distinct lines appends the OPEN ones in the order given. -/
theorem sealLines_commitQueue (s : State) (is : List LineNo) (hd : is.Nodup) :
    (sealLines s is).commitQueue = s.commitQueue ++ is.filter fun i => s.lines[i].state == .open := by
  unfold sealLines
  induction is generalizing s with
  | nil => simp [-Fin.getElem_fin]
  | cons i is ih =>
    obtain ⟨hi, hd⟩ := List.nodup_cons.1 hd
    rw [List.foldl_cons, ih _ hd, sealLine_commitQueue]
    have hf : (is.filter fun k => (sealLine s i).lines[k].state == .open) =
        is.filter fun k => s.lines[k].state == .open := by
      refine List.filter_congr fun k hk => ?_
      rw [sealLine_get, if_neg (fun h : k = i ∧ _ => hi (h.1 ▸ hk))]
    rw [hf]
    by_cases h : s.lines[i].state = .open <;> simp [-Fin.getElem_fin, h]

theorem freeLine_get (s : State) (i k : LineNo) :
    (freeLine s i).lines[k] = if k = i then Line.cleared else s.lines[k] := by
  rw [freeLine_lines, lines_set_get]

/-- Retiring several lines clears them. -/
theorem freeLines_get (s : State) (is : List LineNo) (k : LineNo) :
    (is.foldl freeLine s).lines[k] = if k ∈ is then Line.cleared else s.lines[k] := by
  induction is generalizing s with
  | nil => simp [-Fin.getElem_fin]
  | cons i is ih =>
    rw [List.foldl_cons, ih, freeLine_get]
    by_cases e : k = i <;> by_cases h : k ∈ is <;> simp [-Fin.getElem_fin, e, h]

theorem freeLines_ageList (s : State) (is : List LineNo) (hd : s.ageList.Nodup) :
    (is.foldl freeLine s).ageList = s.ageList.filter fun k => !is.contains k := by
  induction is generalizing s with
  | nil => simp [-Fin.getElem_fin]
  | cons i is ih =>
    rw [List.foldl_cons, ih _ (by rw [freeLine_ageList]; exact hd.erase i), freeLine_ageList, hd.erase_eq_filter,
      List.filter_filter]
    refine List.filter_congr fun k _ => ?_
    by_cases e : k = i <;> simp [-Fin.getElem_fin, e]

theorem freeLines_commitQueue (s : State) (is : List LineNo) (hd : s.commitQueue.Nodup) :
    (is.foldl freeLine s).commitQueue = s.commitQueue.filter fun k => !is.contains k := by
  induction is generalizing s with
  | nil => simp [-Fin.getElem_fin]
  | cons i is ih =>
    rw [List.foldl_cons, ih _ (by rw [freeLine_commitQueue]; exact hd.erase i), freeLine_commitQueue,
      hd.erase_eq_filter, List.filter_filter]
    refine List.filter_congr fun k _ => ?_
    by_cases e : k = i <;> simp [-Fin.getElem_fin, e]

theorem failLine_get (s : State) (i k : LineNo) :
    (failLine s i).lines[k] =
      if k = i then { s.lines[k] with state := .failed, through := false } else s.lines[k] := by
  rw [failLine_lines, lines_set_get]
  split
  · next h => rw [h]
  · rfl

/-- Failing several lines fails each of them once. -/
theorem failLines_get (s : State) (is : List LineNo) (k : LineNo) :
    (is.foldl failLine s).lines[k] =
      if k ∈ is then { s.lines[k] with state := .failed, through := false } else s.lines[k] := by
  induction is generalizing s with
  | nil => simp [-Fin.getElem_fin]
  | cons i is ih =>
    rw [List.foldl_cons, ih, failLine_get]
    by_cases e : k = i <;> by_cases h : k ∈ is <;> simp [-Fin.getElem_fin, e, h]

theorem failLines_commitQueue (s : State) (is : List LineNo) (hd : s.commitQueue.Nodup) :
    (is.foldl failLine s).commitQueue = s.commitQueue.filter fun k => !is.contains k := by
  induction is generalizing s with
  | nil => simp [-Fin.getElem_fin]
  | cons i is ih =>
    rw [List.foldl_cons, ih _ (by rw [failLine_commitQueue]; exact hd.erase i), failLine_commitQueue,
      hd.erase_eq_filter, List.filter_filter]
    refine List.filter_congr fun k _ => ?_
    by_cases e : k = i <;> simp [-Fin.getElem_fin, e]

theorem takeLine_get (s : State) (i k : LineNo) :
    (takeLine s i).lines[k] = if k = i then { s.lines[k] with state := .committing } else s.lines[k] := by
  rw [takeLine_lines, lines_set_get]
  split
  · next h => rw [h]
  · rfl

/-- Taking several lines into a job makes each COMMITTING. -/
theorem takeLines_get (s : State) (is : List LineNo) (k : LineNo) :
    (is.foldl takeLine s).lines[k] = if k ∈ is then { s.lines[k] with state := .committing } else s.lines[k] := by
  induction is generalizing s with
  | nil => simp [-Fin.getElem_fin]
  | cons i is ih =>
    rw [List.foldl_cons, ih, takeLine_get]
    by_cases e : k = i <;> by_cases h : k ∈ is <;> simp [-Fin.getElem_fin, e, h]

theorem takeLines_commitQueue (s : State) (is : List LineNo) (hd : s.commitQueue.Nodup) :
    (is.foldl takeLine s).commitQueue = s.commitQueue.filter fun k => !is.contains k := by
  induction is generalizing s with
  | nil => simp [-Fin.getElem_fin]
  | cons i is ih =>
    rw [List.foldl_cons, ih _ (by rw [takeLine_commitQueue]; exact hd.erase i), takeLine_commitQueue,
      hd.erase_eq_filter, List.filter_filter]
    refine List.filter_congr fun k _ => ?_
    by_cases e : k = i <;> simp [-Fin.getElem_fin, e]

theorem retryLine_get (s : State) (i k : LineNo) :
    (retryLine s i).lines[k] = if k = i then { s.lines[k] with state := .sealed } else s.lines[k] := by
  rw [retryLine_lines, lines_set_get]
  split
  · next h => rw [h]
  · rfl

/-- Retrying several lines seals each. -/
theorem retryLinesFold_get (s : State) (is : List LineNo) (k : LineNo) :
    (is.foldl retryLine s).lines[k] = if k ∈ is then { s.lines[k] with state := .sealed } else s.lines[k] := by
  induction is generalizing s with
  | nil => simp [-Fin.getElem_fin]
  | cons i is ih =>
    rw [List.foldl_cons, ih, retryLine_get]
    by_cases e : k = i <;> by_cases h : k ∈ is <;> simp [-Fin.getElem_fin, e, h]

theorem retryLinesFold_commitQueue (s : State) (is : List LineNo) :
    (is.foldl retryLine s).commitQueue = s.commitQueue ++ is := by
  induction is generalizing s with
  | nil => simp [-Fin.getElem_fin]
  | cons i is ih => rw [List.foldl_cons, ih, retryLine_commitQueue]; simp [-Fin.getElem_fin]

/-- A line after one age expiry has been taken at it (R33). -/
theorem ageLine_get (s : State) (i k : LineNo) :
    (ageLine s i).lines[k] =
      if k = i then
        { s.lines[k] with
          age := s.lines[k].age + 1,
          state := if lineDelay s k ≤ s.lines[k].age + 1 ∧ s.lines[k].state = .open then .sealed
            else s.lines[k].state }
      else s.lines[k] := by
  unfold ageLine
  dsimp only
  by_cases e : k = i
  · subst e
    by_cases hd : lineDelay s k ≤ s.lines[k].age + 1
    · rw [if_pos hd, sealLine_get, updateLine_get]
      by_cases h : s.lines[k].state = .open <;> simp [-Fin.getElem_fin, h, hd]
    · rw [if_neg hd, updateLine_get]
      simp [-Fin.getElem_fin, hd]
  · rw [if_neg e]
    split
    · rw [sealLine_get, updateLine_get]
      simp [-Fin.getElem_fin, e]
    · rw [updateLine_get, if_neg e]

theorem openLine_get (s : State) (i k : LineNo) (p : PageNo) (w : List (Fin 64 × Byte)) :
    (openLine s i p w).lines[k] =
      if k = i then
        { state := .open, page := some p, staged := putBytes (Vector.replicate 64 none) w, age := 0, through := false }
      else s.lines[k] := by
  unfold openLine
  exact lines_set_get _ _ _ _

/-- The FREE line found is FREE, and it is the lowest. -/
theorem freeLineNo_spec {s : State} {i : LineNo} (h : freeLineNo s = some i) :
    s.lines[i].state = .free ∧ ∀ k : LineNo, k < i → s.lines[k].state ≠ .free := by
  unfold freeLineNo at h
  rw [List.find?_eq_some_iff_append] at h
  obtain ⟨h1, as, bs, hl, h2⟩ := h
  refine ⟨by simpa [-Fin.getElem_fin] using h1, fun k hk => ?_⟩
  have hs : (List.finRange 8).Pairwise (· < ·) := by decide +kernel
  rw [hl, List.pairwise_append] at hs
  have hkm : k ∈ as ++ i :: bs := hl ▸ List.mem_finRange k
  rcases List.mem_append.1 hkm with hk' | hk'
  · simpa [-Fin.getElem_fin] using h2 k hk'
  · exfalso
    rcases List.mem_cons.1 hk' with rfl | hk'
    · exact absurd hk (lt_irrefl _)
    · have hlt := (List.pairwise_cons.1 hs.2.1).1 k hk'
      exact absurd (lt_trans hk hlt) (lt_irrefl _)

/-- The lowest FREE line is the one found. -/
theorem freeLineNo_eq {s : State} {i : LineNo} (h : s.lines[i].state = .free)
    (hlow : ∀ k : LineNo, k < i → s.lines[k].state ≠ .free) : freeLineNo s = some i := by
  cases hf : freeLineNo s with
  | none =>
    unfold freeLineNo at hf
    have := List.find?_eq_none.1 hf i (List.mem_finRange i)
    simp [-Fin.getElem_fin, h] at this
  | some k =>
    obtain ⟨hk, hkl⟩ := freeLineNo_spec hf
    rcases lt_trichotomy k i with hlt | rfl | hgt
    · exact absurd hk (hlow k hlt)
    · rfl
    · exact absurd h (hkl i hgt)

theorem freeLineNo_eq_none {s : State} : freeLineNo s = none ↔ ∀ k : LineNo, s.lines[k].state ≠ .free := by
  unfold freeLineNo
  simp [-Fin.getElem_fin, List.find?_eq_none]

theorem openLineOf_eq_none {s : State} {p : PageNo} :
    openLineOf s p = none ↔ ∀ k : LineNo, ¬(s.lines[k].state = .open ∧ s.lines[k].page = some p) := by
  unfold openLineOf
  simp [-Fin.getElem_fin, List.find?_eq_none]

theorem openLineOf_spec {s : State} {p : PageNo} {i : LineNo} (h : openLineOf s p = some i) :
    s.lines[i].state = .open ∧ s.lines[i].page = some p := by
  unfold openLineOf at h
  simpa [-Fin.getElem_fin] using List.find?_some h

theorem isBlocked_iff {s : State} {p : PageNo} :
    isBlocked s p = true ↔ ∃ i : LineNo, s.lines[i].state = .failed ∧ s.lines[i].page = some p := by
  unfold isBlocked
  simp [-Fin.getElem_fin]

/-- A position's staged byte after bytes are laid over. -/
theorem putBytes_get (st : Staged) (w : List (Fin 64 × Byte)) (x : Fin 64) :
    (putBytes st w)[x] = ((w.reverse.find? fun c => c.1 == x).map fun c => some c.2).getD st[x] := by
  unfold putBytes
  induction w generalizing st with
  | nil => simp [-Fin.getElem_fin]
  | cons c w ih =>
    rw [List.foldl_cons, ih, List.reverse_cons, List.find?_append]
    cases hf : w.reverse.find? fun c => c.1 == x with
    | some d => simp [-Fin.getElem_fin]
    | none =>
      by_cases e : c.1 = x
      · subst e
        have heq : (st.set c.1 (some c.2))[c.1] = some c.2 := Vector.getElem_set_self c.1.2
        simp [-Fin.getElem_fin, heq]
      · have hne : (st.set c.1 (some c.2))[x] = st[x] :=
          Vector.getElem_set_ne c.1.2 x.2 (fun h => e (Fin.ext h))
        simp [-Fin.getElem_fin, e, hne]

end Sys2Proof.Machine
end

