-- ==== Sys2Proof/Laws/Port.lean ====
section
/-! SUPPORT. What the port's checks and the staging buffer's decision come to, case by case, as equations. -/

namespace Sys2Proof.Machine

set_option Elab.async false

/-- A write's bytes laid over staged bytes, position by position. -/
theorem putBytes_writesOf (st : Staged) (t : Transaction) : putBytes st (writesOf t) = writtenOver st t := by
  apply Vector.ext
  intro n hn
  have h := putBytes_get st (writesOf t) ⟨n, hn⟩
  have hr : (writtenOver st t)[n] =
      if isCovered t ⟨n, hn⟩ then some ((t.data >>> (8 * (n % 4))).setWidth 8) else st[n] := by
    simp [writtenOver]
  rw [hr]
  refine Eq.trans h ?_
  have hf : ((writesOf t).reverse.find? fun c => c.1 == (⟨n, hn⟩ : Fin 64)) =
      if isCovered t ⟨n, hn⟩ then some (⟨n, hn⟩, (t.data >>> (8 * (n % 4))).setWidth 8) else none := by
    by_cases hc : isCovered t ⟨n, hn⟩ = true
    · rw [if_pos hc, List.find?_eq_some_iff_append]
      refine ⟨by simp, ?_⟩
      have hm : (⟨n, hn⟩ : Fin 64) ∈ (positionsOf t).reverse := by
        rw [List.mem_reverse]
        unfold positionsOf
        rw [List.mem_filter]
        refine ⟨List.mem_finRange _, ?_⟩
        exact hc
      have hnd : (positionsOf t).reverse.Nodup :=
        List.nodup_reverse.2 ((List.nodup_finRange 64).filter _)
      obtain ⟨as, bs, hl⟩ := List.append_of_mem hm
      have hne : (⟨n, hn⟩ : Fin 64) ∉ as := by
        rw [hl] at hnd
        exact fun hm => (List.nodup_append.1 hnd).2.2 _ hm _ List.mem_cons_self rfl
      refine ⟨as.map fun x => (x, laneByte t (x.val % 4)), bs.map fun x => (x, laneByte t (x.val % 4)), ?_, ?_⟩
      · unfold writesOf
        rw [← List.map_reverse, hl, List.map_append, List.map_cons]
        rfl
      · intro c hcm
        obtain ⟨x, hx, rfl⟩ := List.mem_map.1 hcm
        have : x ≠ ⟨n, hn⟩ := fun e => hne (e ▸ hx)
        simpa using this
    · rw [if_neg hc, List.find?_eq_none]
      intro c hcm he
      rw [List.mem_reverse] at hcm
      obtain ⟨x, hx, rfl⟩ := List.mem_map.1 hcm
      have hxe : x = ⟨n, hn⟩ := by simpa using he
      subst hxe
      unfold positionsOf at hx
      rw [List.mem_filter] at hx
      exact hc hx.2
  rw [hf]
  split <;> simp

/-- A read or a write presented at an IDLE port, out of reset, with nothing waiting: it is taken, and the job choice ends the step. -/
theorem exec_portTransaction_of_ready {s : State} (h : s.portReady) (t : Transaction) :
    exec (.portTransaction t) s = .next (chooseJob (takeTransaction { s with portAnswer := none } t)) := by
  obtain ⟨hp, hb, hf⟩ := h
  simp only [exec, execPortTransaction, takeNextTransaction, hp, hb, List.nil_append, if_neg hf]

/-- The further checks come after alignment and kind, out of STARTING. -/
theorem takeTransaction_continues {u : State} {t : Transaction} (ha : passesAlignment t = true)
    (hn : kindOf u (transactionPage t) ≠ .noAccess)
    (hr : ¬(kindOf u (transactionPage t) = .readOnly ∧ t.direction = .write)) (hs : u.frontEnd ≠ .starting) :
    takeTransaction u t = continueChecks u t (kindOf u (transactionPage t)) := by
  unfold takeTransaction
  rw [ha, if_neg (by simp), if_neg hn, if_neg hr, if_neg hs]

/-- A write goes on to the staging buffer in READY when the record does not name its sector. -/
theorem continueChecks_write {u : State} {t : Transaction} {k : AccessKind} (hd : t.direction = .write)
    (hf : u.frontEnd = .ready) (hq : isNamed u (sectorOf (transactionPage t)) = false) :
    continueChecks u t k = takeWrite u t k := by
  unfold continueChecks
  rw [hd]
  simp [hf, hq]

/-- A BUFFERED write opened into a line. -/
theorem openForWrite_buffered (u : State) (i : LineNo) (t : Transaction) :
    openForWrite u i t .buffered =
      { u with
        port := .idle, portAnswer := some (.okay []), ageList := u.ageList ++ [i],
        lines := u.lines.set i (openedFor t .open false) } := by
  unfold openForWrite acceptIntoLine
  rw [if_neg (by simp)]
  unfold openLine answer updateLine openedFor
  rw [putBytes_writesOf]

/-- A THROUGH write opened into a line. -/
theorem openForWrite_through (u : State) (i : LineNo) (t : Transaction) :
    openForWrite u i t .through =
      { u with
        port := .commitWait t .through i, ageList := u.ageList ++ [i], commitQueue := u.commitQueue ++ [i],
        lines := u.lines.set i (openedFor t .sealed true) } := by
  unfold openForWrite acceptIntoLine
  rw [if_pos rfl]
  have hopen : (updateLine (openLine u i (transactionPage t) (writesOf t)) i fun l => { l with through := true }).lines[i].state =
      .open := by
    rw [updateLine_get, if_pos rfl, openLine_get, if_pos rfl]
  unfold sealLine
  rw [if_pos hopen]
  unfold openLine updateLine openedFor
  rw [putBytes_writesOf]
  simp

end Sys2Proof.Machine
end

