-- ==== Sys2Proof/Laws/HandBack.lean ====
section
/-! SUPPORT. What handing a job's lines back comes to: the lines retired or FAILED, the cascades, the THROUGH write that waits and the
write held for a line, each as one lemma. -/

namespace Sys2Proof.Machine

set_option Elab.async false

/-! ## Which lines -/

theorem mem_jobLines (j : Job) (k : LineNo) : k ∈ jobLines j ↔ (j.head == some k || j.members.contains k) = true := by
  unfold jobLines
  cases hh : j.head with
  | none => simp only [Option.toList_none, List.nil_append, beq_iff_eq, reduceCtorEq, Bool.or_eq_true, false_or, List.contains_iff_mem]
  | some i =>
    simp only [Option.toList_some, List.singleton_append, List.mem_cons, Bool.or_eq_true, beq_iff_eq, Option.some.injEq,
      List.contains_iff_mem]
    rw [eq_comm]

/-- The lines a job hands back are those it holds. -/
theorem mem_committingIn (s : State) (j : Job) (k : LineNo) :
    k ∈ committingIn s (jobLines j) ↔ s.heldBy j k = true := by
  unfold committingIn State.heldBy
  rw [List.mem_filter, mem_jobLines, Bool.and_eq_true, and_comm]

/-- The lines a failing end cascades are the waiting lines of the pages of the lines it holds. -/
theorem mem_cascadeOf (s : State) (j : Job) (k : LineNo) :
    k ∈ cascadeOf s (jobLines j) ↔
      ∃ i : LineNo, s.heldBy j i = true ∧ ∃ p, s.lines[i].page = some p ∧ s.cascaded p k = true := by
  unfold cascadeOf waitingLines pagesOf
  rw [List.mem_filter]
  simp only [List.mem_finRange, true_and, Bool.and_eq_true, Option.any_eq_true, List.contains_iff_mem, List.mem_filterMap]
  unfold State.cascaded
  simp only [Bool.and_eq_true, beq_iff_eq]
  constructor
  · rintro ⟨hst, p, hp, i, hi, hpi⟩
    exact ⟨i, (mem_committingIn s j i).1 hi, p, hpi, hst, hp⟩
  · rintro ⟨i, hi, p, hpi, hst, hp⟩
    exact ⟨hst, p, hp, i, (mem_committingIn s j i).2 hi, hpi⟩

theorem failedWith_iff (s : State) (j : Job) (k : LineNo) :
    s.failedWith j k = true ↔ k ∈ committingIn s (jobLines j) ∨ k ∈ cascadeOf s (jobLines j) := by
  rw [mem_committingIn, mem_cascadeOf]
  unfold State.failedWith
  simp [-Fin.getElem_fin, Option.any_eq_true]

/-- A line a cascade fails is not one the job holds. -/
theorem cascaded_not_held {s : State} {j : Job} {p : PageNo} {k : LineNo} (h : s.cascaded p k = true) :
    s.heldBy j k = false := by
  unfold State.cascaded at h
  unfold State.heldBy
  cases hs : s.lines[k].state <;> rw [hs] at h <;> simp at h ⊢

/-- The number of lines a cascade makes FAILED. -/
theorem cascadeOf_length (s : State) (j : Job) :
    (cascadeOf s (jobLines j)).length =
      ((List.finRange 8).filter fun k => s.failedWith j k && !s.heldBy j k).length := by
  have h : cascadeOf s (jobLines j) = (List.finRange 8).filter fun k => s.failedWith j k && !s.heldBy j k := by
    have hm : ∀ k, k ∈ cascadeOf s (jobLines j) ↔ (s.failedWith j k && !s.heldBy j k) = true := by
      intro k
      rw [Bool.and_eq_true, failedWith_iff, mem_committingIn]
      constructor
      · intro hk
        obtain ⟨i, -, p, -, hc⟩ := (mem_cascadeOf s j k).1 hk
        exact ⟨Or.inr hk, by rw [cascaded_not_held hc]; rfl⟩
      · rintro ⟨hk | hk, hn⟩
        · rw [hk] at hn
          simp at hn
        · exact hk
    unfold cascadeOf waitingLines at hm ⊢
    apply List.filter_congr
    intro k _
    have := hm k
    rw [List.mem_filter] at this
    simp only [List.mem_finRange, true_and] at this
    exact Bool.eq_iff_iff.2 this
  rw [h]

/-- The lines that a failing end with one line `i` of page `p` makes FAILED. -/
theorem failedWith_single {s : State} {j : Job} {i : LineNo} {p : PageNo} (hh : j.head = some i) (hm : j.members = [])
    (hc : s.lines[i].state = .committing) (hp : s.lines[i].page = some p) :
    s.failedWith j = fun k => k == i || s.cascaded p k := by
  have hheld : ∀ k, s.heldBy j k = true ↔ k = i := by
    intro k
    unfold State.heldBy
    rw [hh, hm]
    simp only [List.contains_nil, Bool.or_false, Bool.and_eq_true, beq_iff_eq, Option.some.injEq]
    constructor
    · exact fun h => h.2.symm
    · rintro rfl
      exact ⟨hc, rfl⟩
  funext k
  rw [Bool.eq_iff_iff, failedWith_iff, mem_committingIn, hheld, mem_cascadeOf]
  simp only [Bool.or_eq_true, beq_iff_eq]
  constructor
  · rintro (h | ⟨i', hi', p', hp', hcas⟩)
    · exact Or.inl h
    · rw [(hheld i').1 hi', hp, Option.some.injEq] at hp'
      exact Or.inr (hp' ▸ hcas)
  · rintro (h | h)
    · exact Or.inl h
    · exact Or.inr ⟨i, (hheld i).2 rfl, p, hp, h⟩

/-- The lines that an entry cascade of a sector reaches. -/
theorem waitingLines_sector (s : State) (sec : SectorNo) (k : LineNo) :
    k ∈ waitingLines s (fun p => sectorOf p == sec) ↔ s.cascadedIn sec k = true := by
  unfold waitingLines State.cascadedIn
  rw [List.mem_filter]
  simp only [List.mem_finRange, true_and]

/-! ## Failing lines, and the THROUGH write that waits -/

/-- Failing several lines touches the lines and the queue alone. -/
theorem failLines_eq (s : State) (is : List LineNo) :
    is.foldl failLine s =
      { s with lines := (is.foldl failLine s).lines, commitQueue := (is.foldl failLine s).commitQueue } := by
  induction is generalizing s with
  | nil => rfl
  | cons i is ih =>
    rw [List.foldl_cons, ih]
    rfl

/-- Retiring several lines touches the lines and the two lists alone. -/
theorem freeLines_eq (s : State) (is : List LineNo) :
    is.foldl freeLine s =
      { s with lines := (is.foldl freeLine s).lines, ageList := (is.foldl freeLine s).ageList,
               commitQueue := (is.foldl freeLine s).commitQueue } := by
  induction is generalizing s with
  | nil => rfl
  | cons i is ih =>
    rw [List.foldl_cons, ih]
    rfl

/-- Lines failed one after another are the lines a test picks out, FAILED. -/
theorem failLines_linesFailed (s : State) (is : List LineNo) (failed : LineNo → Bool) (h : ∀ k, k ∈ is ↔ failed k = true) :
    s.linesFailed (is.foldl failLine s) failed := by
  constructor
  · intro k
    rw [failLines_get]
    by_cases hk : k ∈ is
    · rw [if_pos hk, if_pos ((h k).1 hk)]
      rfl
    · rw [if_neg hk, if_neg (mt (h k).2 hk)]
  · intro hn
    rw [failLines_commitQueue _ _ hn]
    apply List.filter_congr
    intro k _
    congr 1
    rw [Bool.eq_iff_iff, List.contains_iff_mem]
    exact h k

/-- A THROUGH write whose line is neither FREE nor FAILED waits on. -/
theorem answerThrough_waits {s : State} (hw : s.waitLaw) : answerThrough s = s := by
  unfold answerThrough
  split
  · next t k i hp =>
    rcases hw t k i hp with h | h <;> simp [-Fin.getElem_fin, h]
  · rfl

/-- The THROUGH write that waits on a line just FAILED is answered COMMIT_FAIL, any other waits on (R26, R134). -/
theorem answerThrough_failed {s u : State} {failed : LineNo → Bool} (hw : s.waitLaw)
    (hu : ∀ k : LineNo, u.lines[k] = if failed k = true then (s.lines[k]).failedOf else s.lines[k]) (hp : u.port = s.port)
    (ha : u.portAnswer = s.portAnswer) :
    answerThrough u =
      { u with port := s.portAfter failed, portAnswer := s.answerAfter failed (.error .commitFail) } := by
  have same : { u with port := s.port, portAnswer := s.portAnswer } = u := by rw [← hp, ← ha]
  unfold answerThrough State.portAfter State.answerAfter
  rw [hp]
  cases hport : s.port with
  | idle =>
    rw [hport] at same
    exact same.symm
  | held t k c w =>
    rw [hport] at same
    exact same.symm
  | commitWait t k i =>
    dsimp only
    rw [hu i]
    by_cases hf : failed i = true
    · simp only [hf, if_true]
      rw [if_neg (by simp [Line.failedOf]), if_pos (by simp [Line.failedOf])]
      unfold answer updateLine
      have hl : u.lines.set i { u.lines[i] with through := false } = u.lines := by
        apply Vector.ext
        intro n hn
        have hg := lines_set_get u.lines i ⟨n, hn⟩ { u.lines[i] with through := false }
        refine Eq.trans hg ?_
        split
        · next he =>
          rw [hu i, if_pos hf]
          have : u.lines[n] = u.lines[i] := by rw [← he]; rfl
          rw [this, hu i, if_pos hf]
          rfl
        · rfl
      rw [hl]
    · simp only [hf, Bool.false_eq_true, if_false]
      have hst : ¬ s.lines[i].state = .free ∧ ¬ s.lines[i].state = .failed := by
        rcases hw t k i hport with h | h <;> rw [h] <;> exact ⟨by simp, by simp⟩
      rw [if_neg hst.1, if_neg hst.2]
      rw [hport] at same
      exact same.symm

/-- The THROUGH write that waits on a line just retired is answered OKAY, any other waits on (R26, R134). -/
theorem answerThrough_retired {s u : State} {retired : LineNo → Bool} (hw : s.waitLaw)
    (hu : ∀ k : LineNo, u.lines[k] = if retired k = true then Line.cleared else s.lines[k]) (hp : u.port = s.port)
    (ha : u.portAnswer = s.portAnswer) :
    answerThrough u = { u with port := s.portAfter retired, portAnswer := s.answerAfter retired (.okay []) } := by
  have same : { u with port := s.port, portAnswer := s.portAnswer } = u := by rw [← hp, ← ha]
  unfold answerThrough State.portAfter State.answerAfter
  rw [hp]
  cases hport : s.port with
  | idle =>
    rw [hport] at same
    exact same.symm
  | held t k c w =>
    rw [hport] at same
    exact same.symm
  | commitWait t k i =>
    dsimp only
    rw [hu i]
    by_cases hf : retired i = true
    · simp only [hf, if_true]
      rw [if_pos (by rfl)]
      rfl
    · simp only [hf, Bool.false_eq_true, if_false]
      have hst : ¬ s.lines[i].state = .free ∧ ¬ s.lines[i].state = .failed := by
        rcases hw t k i hport with h | h <;> rw [h] <;> exact ⟨by simp, by simp⟩
      rw [if_neg hst.1, if_neg hst.2]
      rw [hport] at same
      exact same.symm

/-! ## Handing back -/

/-- A failing end: the job's lines and those of the cascade FAILED, the THROUGH write answered, nothing else changed (R38, R97). -/
theorem handBackFailed_spec {s : State} (hw : s.waitLaw) (j : Job) :
    ∃ u, handBackFailed s (jobLines j) = u ∧
      u = { s with
        lines := u.lines, commitQueue := u.commitQueue, port := s.portAfter (s.failedWith j),
        portAnswer := s.answerAfter (s.failedWith j) (.error .commitFail) } ∧
      s.linesFailed u (s.failedWith j) := by
  have hfold : (cascadeOf s (jobLines j)).foldl failLine ((committingIn s (jobLines j)).foldl failLine s) =
      (committingIn s (jobLines j) ++ cascadeOf s (jobLines j)).foldl failLine s := by rw [List.foldl_append]
  have hlf := failLines_linesFailed s (committingIn s (jobLines j) ++ cascadeOf s (jobLines j)) (s.failedWith j)
    (by intro k; rw [List.mem_append, failedWith_iff])
  have heq := failLines_eq s (committingIn s (jobLines j) ++ cascadeOf s (jobLines j))
  refine ⟨_, rfl, ?_, ?_⟩
  · unfold handBackFailed
    rw [hfold, answerThrough_failed hw hlf.1 (by rw [heq]) (by rw [heq]), heq]
  · unfold handBackFailed
    rw [hfold, answerThrough_failed hw hlf.1 (by rw [heq]) (by rw [heq])]
    exact hlf

/-- An entry cascade: the waiting lines of the sector FAILED, the THROUGH write answered, nothing else changed (R105). -/
theorem entryCascade_spec {s : State} (hw : s.waitLaw) (sec : SectorNo) :
    ∃ u, entryCascade s sec = u ∧
      u = { s with
        lines := u.lines, commitQueue := u.commitQueue, port := s.portAfter (s.cascadedIn sec),
        portAnswer := s.answerAfter (s.cascadedIn sec) (.error .commitFail) } ∧
      s.linesFailed u (s.cascadedIn sec) := by
  have hlf := failLines_linesFailed s (waitingLines s fun p => sectorOf p == sec) (s.cascadedIn sec)
    (waitingLines_sector s sec)
  have heq := failLines_eq s (waitingLines s fun p => sectorOf p == sec)
  refine ⟨_, rfl, ?_, ?_⟩
  · unfold entryCascade
    rw [answerThrough_failed hw hlf.1 (by rw [heq]) (by rw [heq]), heq]
  · unfold entryCascade
    rw [answerThrough_failed hw hlf.1 (by rw [heq]) (by rw [heq])]
    exact hlf

/-- A job's lines retired: FREE and out of the age list, the THROUGH write answered, then a held write taken again (R37, R54). -/
theorem handBackRetired_spec {s : State} (hw : s.waitLaw) (j : Job) :
    ∃ v, handBackRetired s (jobLines j) = retakeHeldWrite v ∧
      v = { s with
        lines := v.lines, ageList := v.ageList, commitQueue := v.commitQueue, port := s.portAfter (s.heldBy j),
        portAnswer := s.answerAfter (s.heldBy j) (.okay []) } ∧
      s.linesRetired v j := by
  have hl : ∀ k : LineNo, ((committingIn s (jobLines j)).foldl freeLine s).lines[k] =
      if s.heldBy j k = true then Line.cleared else s.lines[k] := by
    intro k
    rw [freeLines_get]
    by_cases hk : k ∈ committingIn s (jobLines j)
    · rw [if_pos hk, if_pos ((mem_committingIn s j k).1 hk)]
    · rw [if_neg hk, if_neg (mt (mem_committingIn s j k).2 hk)]
  have heq := freeLines_eq s (committingIn s (jobLines j))
  have ht := answerThrough_retired hw hl (by rw [heq]) (by rw [heq])
  refine ⟨answerThrough ((committingIn s (jobLines j)).foldl freeLine s), rfl, ?_, ?_, ?_⟩
  · rw [ht, heq]
  · rw [ht]
    exact hl
  · intro hlaw
    rw [ht]
    dsimp only
    rw [freeLines_ageList _ _ hlaw.1, freeLines_commitQueue _ _ hlaw.2.1]
    constructor
    · apply List.filter_congr
      intro k _
      congr 1
      rw [Bool.eq_iff_iff, List.contains_iff_mem]
      exact mem_committingIn s j k
    · rw [List.filter_eq_self]
      intro k hk
      have hs := (hlaw.2.2 k).2.1.1 hk
      rw [Bool.not_eq_true', Bool.eq_false_iff, Ne, List.contains_iff_mem, mem_committingIn]
      unfold State.heldBy
      rw [hs]
      simp

/-- One COMMITTING line retired: FREE, out of the lists, the THROUGH write answered, then a held write taken again (R37, R54). -/
theorem handBackRetired_single {s : State} (hw : s.waitLaw) {i : LineNo} (hc : s.lines[i].state = .committing) :
    handBackRetired s [i] = retakeHeldWrite
      { s with
        lines := s.lines.set i Line.cleared, ageList := s.ageList.erase i, commitQueue := s.commitQueue.erase i,
        port := s.portAfter (· == i), portAnswer := s.answerAfter (· == i) (.okay []) } := by
  have hcom : committingIn s [i] = [i] := by
    unfold committingIn
    simp [-Fin.getElem_fin, hc]
  have hl : ∀ k : LineNo, (freeLine s i).lines[k] = if (k == i) = true then Line.cleared else s.lines[k] := by
    intro k
    rw [freeLine_get]
    simp only [beq_iff_eq]
  have ht := answerThrough_retired (u := freeLine s i) (retired := (· == i)) hw hl rfl rfl
  unfold handBackRetired
  rw [hcom, List.foldl_cons, List.foldl_nil, ht]
  rfl

/-! ## The law of the wait -/

/-- A write held for a line, taken again, keeps the law of the wait. -/
theorem retakeHeldWrite_waitLaw {s : State} (hw : s.waitLaw) : (retakeHeldWrite s).waitLaw := by
  unfold retakeHeldWrite
  split
  · next t k w hp =>
    split
    · exact hw
    · next i hi =>
      split
      · intro t' k' i' h
        unfold refuse answer at h
        cases h
      · split
        · intro t' k' i' h
          unfold refuse answer at h
          cases h
        · by_cases hk : k = .through
          · subst hk
            rw [openForWrite_through]
            intro t' k' i' h
            simp only [PortState.commitWait.injEq] at h
            obtain ⟨-, -, rfl⟩ := h
            left
            show (s.lines.set i _)[i].state = _
            rw [lines_set_get, if_pos rfl]
            rfl
          · intro t' k' i' h
            unfold openForWrite acceptIntoLine at h
            rw [if_neg hk] at h
            unfold answer at h
            cases h
  · exact hw

end Sys2Proof.Machine
end

