-- ==== Sys2Proof/Laws/Link.lean ====
section
/-! SUPPORT. What a request frame, received whole on a link that is ready, comes to: its execution. -/

namespace Sys2Proof.Machine

set_option Elab.async false

/-- A sum of bytes and the CHECK byte made for it is 0. -/
theorem checkByteFor_sum (bytes : List Byte) : bytes.foldl (· + ·) 0#8 + checkByteFor bytes = 0#8 := by
  unfold checkByteFor
  generalize bytes.foldl (· + ·) 0#8 = w
  rw [BitVec.add_comm, BitVec.sub_add_cancel]

theorem sum_from (bytes : List Byte) (w : Byte) : bytes.foldl (· + ·) w = w + bytes.foldl (· + ·) 0#8 := by
  induction bytes generalizing w with
  | nil => simp
  | cons b bytes ih => rw [List.foldl_cons, ih, List.foldl_cons, ih (0#8 + b), BitVec.zero_add, BitVec.add_assoc]

/-- The CHECK byte of a request frame passes the check. -/
theorem checkHolds_request (cmd tag len : Byte) (args : List Byte) :
    checkHolds cmd tag len args (checkByteFor ([cmd, tag, len] ++ args)) = true := by
  have h := checkByteFor_sum ([cmd, tag, len] ++ args)
  unfold checkHolds
  rw [List.foldl_append, sum_from args] at h
  simpa using h

/-- Short of its LEN + 4 bytes a frame goes on. -/
theorem frameOf_argument {cmd tag len b : Byte} {args : List Byte} (hl : args.length < len.toNat) :
    frameOf ([cmd, tag, len] ++ args ++ [b]) = none := by
  have h : ¬ ((args ++ [b]).length = len.toNat + 1) := by
    simp only [List.length_append, List.length_cons, List.length_nil]
    omega
  cases args with
  | nil => simp only [List.nil_append] at h; simp only [frameOf, List.cons_append, List.nil_append, List.append_nil, if_neg h]
  | cons a args => simp only [List.cons_append] at h; simp only [frameOf, List.cons_append, List.nil_append, if_neg h]

/-- The byte after LEN arguments completes a frame. -/
theorem frameOf_last {cmd tag len check : Byte} {args : List Byte} (hl : args.length = len.toNat) :
    frameOf ([cmd, tag, len] ++ args ++ [check]) = some (.whole cmd tag len args check) := by
  have h : (args ++ [check]).length = len.toNat + 1 := by
    simp only [List.length_append, List.length_cons, List.length_nil]
    omega
  have hd : (args ++ [check]).dropLast = args := List.dropLast_concat
  have hg : (args ++ [check]).getLastD 0#8 = check := List.getLastD_concat
  cases args with
  | nil =>
    simp only [List.nil_append] at h hd hg
    simp only [frameOf, List.cons_append, List.nil_append, List.append_nil, if_pos h, hd, hg]
  | cons a args =>
    simp only [List.cons_append] at h hd hg
    simp only [frameOf, List.cons_append, List.nil_append, if_pos h, hd, hg]

/-- With a frame in progress a start bit begins none. -/
theorem startBit_of_frame {s : State} {f : FrameInProgress} (h : s.link.frame = some f) : startBit s = s := by
  simp [startBit, h]

/-- A byte that joins the bytes kept of a frame. -/
theorem receiveByte_keeping {s : State} {bytes : List Byte} (hr : receives s = true)
    (hf : s.link.frame = some (.keeping bytes)) (b : Byte) : receiveByte s b = keepBytes s (bytes ++ [b]) := by
  simp only [receiveByte, hr, if_true, startBit_of_frame hf, joinFrame, hf]

/-- The first start bit of a frame, no buffered frame held, begins a frame that is kept; IDLE becomes RECEIVING. -/
theorem startBit_begins {s : State} (hr : receives s = true) (hf : s.link.frame = none) (hb : s.link.buffered = none) :
    startBit s =
      { s with link := { s.link with
          frame := some (.keeping []), state := if s.link.state = .idle then .receiving else s.link.state } } := by
  simp [startBit, hr, hf, beginFrame, hb]

/-- The first byte of a frame whose start bit has not come as a command of its own begins it and joins it. -/
theorem receiveByte_first {s : State} (hr : receives s = true) (hf : s.link.frame = none) (hb : s.link.buffered = none)
    (b : Byte) :
    receiveByte s b =
      { s with link := { s.link with
          frame := some (.keeping [b]), state := if s.link.state = .idle then .receiving else s.link.state } } := by
  simp [receiveByte, hr, startBit_begins hr hf hb, joinFrame, keepBytes, frameOf]

/-- The bytes kept of a frame that has had its LEN byte and does not end with the byte that comes. -/
theorem receiveByte_argument {s : State} {cmd tag len b : Byte} {args : List Byte} (hr : receives s = true)
    (hf : s.link.frame = some (.keeping ([cmd, tag, len] ++ args))) (hl : args.length < len.toNat) :
    receiveByte s b =
      { s with link := { s.link with frame := some (.keeping ([cmd, tag, len] ++ (args ++ [b]))) } } := by
  rw [receiveByte_keeping hr hf, keepBytes, frameOf_argument hl, List.append_assoc]

/-- Argument bytes received one after another. -/
theorem receiveBytes_arguments {cmd tag len : Byte} (bytes : List Byte) {s : State} {args : List Byte}
    (hr : receives s = true) (hf : s.link.frame = some (.keeping ([cmd, tag, len] ++ args)))
    (hl : args.length + bytes.length ≤ len.toNat) :
    receiveBytes s bytes =
      { s with link := { s.link with frame := some (.keeping ([cmd, tag, len] ++ (args ++ bytes))) } } := by
  unfold receiveBytes
  induction bytes generalizing s args with
  | nil =>
    rw [List.append_nil, ← hf]
    rfl
  | cons b bytes ih =>
    simp only [List.length_cons] at hl
    rw [List.foldl_cons, receiveByte_argument hr hf (by omega)]
    rw [ih (args := args ++ [b]) (by exact hr) rfl (by simp only [List.length_append, List.length_cons, List.length_nil]; omega)]
    simp

/-- The last byte of a frame in RECEIVING hands the frame over. -/
theorem receiveByte_last {s : State} {cmd tag len check : Byte} {args : List Byte} (hr : receives s = true)
    (hs : s.link.state = .receiving) (hf : s.link.frame = some (.keeping ([cmd, tag, len] ++ args)))
    (hl : args.length = len.toNat) :
    receiveByte s check =
      executeFrame { s with link := { s.link with frame := none, state := .busy } } (.whole cmd tag len args check) := by
  rw [receiveByte_keeping hr hf, keepBytes, frameOf_last hl]
  simp only [quietAfter, completeFrame, hs]

/-- A whole request frame on a link that is ready is executed, the link BUSY. -/
theorem receiveBytes_request {s : State} (h : s.linkReady) (cmd tag : Byte) (args : List Byte) (hl : args.length ≤ 12) :
    receiveBytes s (requestBytes cmd tag args) =
      executeFrame { s with link := { s.link with state := .busy } }
        (.whole cmd tag (BitVec.ofNat 8 args.length) args
          (checkByteFor ([cmd, tag, BitVec.ofNat 8 args.length] ++ args))) := by
  obtain ⟨hfe, hst, hfr, hbu, hqw, -, -⟩ := h
  have hlen : (BitVec.ofNat 8 args.length).toNat = args.length := by
    rw [BitVec.toNat_ofNat]
    omega
  have h3 : receiveBytes s [cmd, tag, BitVec.ofNat 8 args.length] =
      { s with link := { s.link with
          state := .receiving, frame := some (.keeping ([cmd, tag, BitVec.ofNat 8 args.length] ++ [])) } } := by
    have hge : ¬ 12 < args.length % 256 := by omega
    have hr : receives s = true := by simp [receives, hst, hfe, hqw]
    have e1 := receiveByte_first hr hfr hbu cmd
    have hr1 : receives (receiveByte s cmd) = true := by rw [e1]; simp [receives, hst, hfe, hqw]
    have e2 := receiveByte_keeping (s := receiveByte s cmd) (bytes := [cmd]) hr1 (by rw [e1]) tag
    have e3 : receiveByte (receiveByte s cmd) tag =
        { s with link := { s.link with state := .receiving, frame := some (.keeping [cmd, tag]) } } := by
      rw [e2, e1]
      simp [keepBytes, frameOf, hst]
    have e4 := receiveByte_keeping (s := receiveByte (receiveByte s cmd) tag) (bytes := [cmd, tag])
      (by rw [e3]; simp [receives, hfe, hqw]) (by rw [e3]) (BitVec.ofNat 8 args.length)
    show receiveByte (receiveByte (receiveByte s cmd) tag) (BitVec.ofNat 8 args.length) = _
    rw [e4, e3]
    simp [keepBytes, frameOf, hge]
  unfold requestBytes
  dsimp only
  unfold receiveBytes at h3 ⊢
  rw [List.append_assoc, List.foldl_append, h3, List.foldl_append]
  have hr : receives { s with link := { s.link with
      state := .receiving, frame := some (.keeping ([cmd, tag, BitVec.ofNat 8 args.length] ++ [])) } } = true := by
    simp [receives, hfe, hqw]
  have ha := receiveBytes_arguments (cmd := cmd) (tag := tag) (len := BitVec.ofNat 8 args.length) args
    (s := { s with link := { s.link with
      state := .receiving, frame := some (.keeping ([cmd, tag, BitVec.ofNat 8 args.length] ++ [])) } })
    (args := []) hr rfl (by rw [hlen]; simp)
  unfold receiveBytes at ha
  rw [ha, List.foldl_cons, List.foldl_nil, List.nil_append]
  rw [receiveByte_last (cmd := cmd) (tag := tag) (len := BitVec.ofNat 8 args.length) (args := args) (by exact hr) rfl rfl hlen.symm]
  have hlink : s.link.frame = none := hfr
  simp [← hlink]

/-- A response built on a BUSY link that sends nothing begins at once. -/
theorem respond_answering {s : State} (htr : s.link.transmitter = .resting) (st : Status) (tag : Byte) (data : List Byte)
    (resets : Bool) :
    respond { s with link := { s.link with state := .busy } } { status := st, tag := tag, data := data, resets := resets } =
      s.answering (statusCode st) tag data resets := by
  simp [respond, htr, beginResponse, State.answering, responseBytes, flagsByte, alertOutput]

/-- A request whose length is its command's is run as that command. -/
theorem executeFrame_request {s : State} {cmd tag : Byte} {args : List Byte} (hl : args.length ≤ 12)
    (hc : requestLength cmd = some args.length) :
    executeFrame s (.whole cmd tag (BitVec.ofNat 8 args.length) args
        (checkByteFor ([cmd, tag, BitVec.ofNat 8 args.length] ++ args))) = runCommand s cmd tag args := by
  have hlen : (BitVec.ofNat 8 args.length).toNat = args.length := by
    rw [BitVec.toNat_ofNat]
    omega
  simp only [executeFrame, checkHolds_request, Bool.not_true, Bool.false_eq_true, if_false, hc, hlen, if_true]

end Sys2Proof.Machine
end

