-- ==== Sys2Proof/Laws/Receiver.lean ====
section
/-! SUPPORT. What the receiver and the transmitter leave unchanged: one lemma per operation. -/

namespace Sys2Proof.Machine

set_option Elab.async false

@[simp] theorem beginCandidate_frame (s : State) :
    (beginCandidate s).cells = s.cells ∧ (beginCandidate s).op = s.op ∧ (beginCandidate s).job = s.job ∧
    (beginCandidate s).buffer = s.buffer ∧ (beginCandidate s).journals = s.journals ∧
    (beginCandidate s).quarantine = s.quarantine ∧ (beginCandidate s).lines = s.lines ∧
    (beginCandidate s).ageList = s.ageList ∧ (beginCandidate s).commitQueue = s.commitQueue ∧
    (beginCandidate s).ageTimer = s.ageTimer ∧ (beginCandidate s).regions = s.regions ∧
    (beginCandidate s).settings = s.settings ∧ (beginCandidate s).port = s.port ∧
    (beginCandidate s).portAnswer = s.portAnswer ∧ (beginCandidate s).frontEnd = s.frontEnd ∧
    (beginCandidate s).scan = s.scan ∧ (beginCandidate s).log = s.log ∧ (beginCandidate s).unit = s.unit := by unfold beginCandidate; split <;> simp

@[simp] theorem abandonCandidate_frame (s : State) :
    (abandonCandidate s).cells = s.cells ∧ (abandonCandidate s).op = s.op ∧ (abandonCandidate s).job = s.job ∧
    (abandonCandidate s).buffer = s.buffer ∧ (abandonCandidate s).journals = s.journals ∧
    (abandonCandidate s).quarantine = s.quarantine ∧ (abandonCandidate s).lines = s.lines ∧
    (abandonCandidate s).ageList = s.ageList ∧ (abandonCandidate s).commitQueue = s.commitQueue ∧
    (abandonCandidate s).ageTimer = s.ageTimer ∧ (abandonCandidate s).regions = s.regions ∧
    (abandonCandidate s).settings = s.settings ∧ (abandonCandidate s).port = s.port ∧
    (abandonCandidate s).portAnswer = s.portAnswer ∧ (abandonCandidate s).frontEnd = s.frontEnd ∧
    (abandonCandidate s).scan = s.scan ∧ (abandonCandidate s).log = s.log ∧ (abandonCandidate s).unit = s.unit := by unfold abandonCandidate; split <;> simp

@[simp] theorem judgeCandidate_frame (s : State) (m : Nat) (y : Byte) (st : Bool) :
    (judgeCandidate s m y st).cells = s.cells ∧ (judgeCandidate s m y st).op = s.op ∧
    (judgeCandidate s m y st).job = s.job ∧ (judgeCandidate s m y st).buffer = s.buffer ∧
    (judgeCandidate s m y st).journals = s.journals ∧ (judgeCandidate s m y st).quarantine = s.quarantine ∧
    (judgeCandidate s m y st).lines = s.lines ∧ (judgeCandidate s m y st).ageList = s.ageList ∧
    (judgeCandidate s m y st).commitQueue = s.commitQueue ∧ (judgeCandidate s m y st).ageTimer = s.ageTimer ∧
    (judgeCandidate s m y st).regions = s.regions ∧ (judgeCandidate s m y st).settings = s.settings ∧
    (judgeCandidate s m y st).port = s.port ∧ (judgeCandidate s m y st).portAnswer = s.portAnswer ∧
    (judgeCandidate s m y st).frontEnd = s.frontEnd ∧ (judgeCandidate s m y st).scan = s.scan ∧
    (judgeCandidate s m y st).log = s.log ∧ (judgeCandidate s m y st).unit = s.unit := by unfold judgeCandidate; split <;> simp

@[simp] theorem syncAnswerEnds_frame (s : State) :
    (syncAnswerEnds s).cells = s.cells ∧ (syncAnswerEnds s).op = s.op ∧ (syncAnswerEnds s).job = s.job ∧
    (syncAnswerEnds s).buffer = s.buffer ∧ (syncAnswerEnds s).journals = s.journals ∧
    (syncAnswerEnds s).quarantine = s.quarantine ∧ (syncAnswerEnds s).lines = s.lines ∧
    (syncAnswerEnds s).ageList = s.ageList ∧ (syncAnswerEnds s).commitQueue = s.commitQueue ∧
    (syncAnswerEnds s).ageTimer = s.ageTimer ∧ (syncAnswerEnds s).regions = s.regions ∧
    (syncAnswerEnds s).settings = s.settings ∧ (syncAnswerEnds s).port = s.port ∧
    (syncAnswerEnds s).portAnswer = s.portAnswer ∧ (syncAnswerEnds s).frontEnd = s.frontEnd ∧
    (syncAnswerEnds s).scan = s.scan ∧ (syncAnswerEnds s).log = s.log ∧ (syncAnswerEnds s).unit = s.unit := by unfold syncAnswerEnds; split <;> simp

@[simp] theorem dropFrame_frame (s : State) :
    (dropFrame s).cells = s.cells ∧ (dropFrame s).op = s.op ∧ (dropFrame s).job = s.job ∧
    (dropFrame s).buffer = s.buffer ∧ (dropFrame s).journals = s.journals ∧ (dropFrame s).quarantine = s.quarantine ∧
    (dropFrame s).lines = s.lines ∧ (dropFrame s).ageList = s.ageList ∧ (dropFrame s).commitQueue = s.commitQueue ∧
    (dropFrame s).ageTimer = s.ageTimer ∧ (dropFrame s).regions = s.regions ∧ (dropFrame s).settings = s.settings ∧
    (dropFrame s).port = s.port ∧ (dropFrame s).portAnswer = s.portAnswer ∧ (dropFrame s).frontEnd = s.frontEnd ∧
    (dropFrame s).scan = s.scan ∧ (dropFrame s).log = s.log ∧ (dropFrame s).unit = s.unit := by simp [dropFrame]

@[simp] theorem quietOn_frame (s : State) :
    (quietOn s).cells = s.cells ∧ (quietOn s).op = s.op ∧ (quietOn s).job = s.job ∧ (quietOn s).buffer = s.buffer ∧
    (quietOn s).journals = s.journals ∧ (quietOn s).quarantine = s.quarantine ∧ (quietOn s).lines = s.lines ∧
    (quietOn s).ageList = s.ageList ∧ (quietOn s).commitQueue = s.commitQueue ∧ (quietOn s).ageTimer = s.ageTimer ∧
    (quietOn s).regions = s.regions ∧ (quietOn s).settings = s.settings ∧ (quietOn s).port = s.port ∧
    (quietOn s).portAnswer = s.portAnswer ∧ (quietOn s).frontEnd = s.frontEnd ∧ (quietOn s).scan = s.scan ∧
    (quietOn s).log = s.log ∧ (quietOn s).unit = s.unit := by simp [quietOn]

@[simp] theorem completeFrame_frame (s : State) (f : Frame) :
    (completeFrame s f).cells = s.cells ∧ (completeFrame s f).journals = s.journals ∧
    (completeFrame s f).ageTimer = s.ageTimer ∧ (completeFrame s f).frontEnd = s.frontEnd ∧
    (completeFrame s f).scan = s.scan := by unfold completeFrame; split <;> simp

@[simp] theorem quietAfter_frame (s : State) (f : Frame) :
    (quietAfter s f).cells = s.cells ∧ (quietAfter s f).op = s.op ∧ (quietAfter s f).job = s.job ∧
    (quietAfter s f).buffer = s.buffer ∧ (quietAfter s f).journals = s.journals ∧
    (quietAfter s f).quarantine = s.quarantine ∧ (quietAfter s f).lines = s.lines ∧
    (quietAfter s f).ageList = s.ageList ∧ (quietAfter s f).commitQueue = s.commitQueue ∧
    (quietAfter s f).ageTimer = s.ageTimer ∧ (quietAfter s f).regions = s.regions ∧
    (quietAfter s f).settings = s.settings ∧ (quietAfter s f).port = s.port ∧
    (quietAfter s f).portAnswer = s.portAnswer ∧ (quietAfter s f).frontEnd = s.frontEnd ∧
    (quietAfter s f).scan = s.scan ∧ (quietAfter s f).log = s.log ∧ (quietAfter s f).unit = s.unit := by unfold quietAfter; split <;> simp

@[simp] theorem keepBytes_frame (s : State) (bs : List Byte) :
    (keepBytes s bs).cells = s.cells ∧ (keepBytes s bs).journals = s.journals ∧
    (keepBytes s bs).ageTimer = s.ageTimer ∧ (keepBytes s bs).frontEnd = s.frontEnd ∧
    (keepBytes s bs).scan = s.scan := by
  unfold keepBytes
  repeat' split
  all_goals simp

@[simp] theorem countBytes_frame (s : State) (n : Nat) (len : Option Byte) :
    (countBytes s n len).cells = s.cells ∧ (countBytes s n len).op = s.op ∧ (countBytes s n len).job = s.job ∧
    (countBytes s n len).buffer = s.buffer ∧ (countBytes s n len).journals = s.journals ∧
    (countBytes s n len).quarantine = s.quarantine ∧ (countBytes s n len).lines = s.lines ∧
    (countBytes s n len).ageList = s.ageList ∧ (countBytes s n len).commitQueue = s.commitQueue ∧
    (countBytes s n len).ageTimer = s.ageTimer ∧ (countBytes s n len).regions = s.regions ∧
    (countBytes s n len).settings = s.settings ∧ (countBytes s n len).port = s.port ∧
    (countBytes s n len).portAnswer = s.portAnswer ∧ (countBytes s n len).frontEnd = s.frontEnd ∧
    (countBytes s n len).scan = s.scan ∧ (countBytes s n len).log = s.log ∧ (countBytes s n len).unit = s.unit := by
  unfold countBytes
  repeat' split
  all_goals simp

@[simp] theorem beginOverrun_frame (s : State) :
    (beginOverrun s).cells = s.cells ∧ (beginOverrun s).op = s.op ∧ (beginOverrun s).job = s.job ∧
    (beginOverrun s).buffer = s.buffer ∧ (beginOverrun s).journals = s.journals ∧
    (beginOverrun s).quarantine = s.quarantine ∧ (beginOverrun s).lines = s.lines ∧
    (beginOverrun s).ageList = s.ageList ∧ (beginOverrun s).commitQueue = s.commitQueue ∧
    (beginOverrun s).ageTimer = s.ageTimer ∧ (beginOverrun s).regions = s.regions ∧
    (beginOverrun s).settings = s.settings ∧ (beginOverrun s).port = s.port ∧
    (beginOverrun s).portAnswer = s.portAnswer ∧ (beginOverrun s).frontEnd = s.frontEnd ∧
    (beginOverrun s).scan = s.scan ∧ (beginOverrun s).log = s.log ∧ (beginOverrun s).unit = s.unit := by simp [beginOverrun]

@[simp] theorem joinFrame_frame (s : State) (b : Byte) :
    (joinFrame s b).cells = s.cells ∧ (joinFrame s b).journals = s.journals ∧ (joinFrame s b).ageTimer = s.ageTimer ∧
    (joinFrame s b).frontEnd = s.frontEnd ∧ (joinFrame s b).scan = s.scan := by unfold joinFrame; split <;> simp

@[simp] theorem beginFrame_frame (s : State) :
    (beginFrame s).cells = s.cells ∧ (beginFrame s).op = s.op ∧ (beginFrame s).job = s.job ∧
    (beginFrame s).buffer = s.buffer ∧ (beginFrame s).journals = s.journals ∧
    (beginFrame s).quarantine = s.quarantine ∧ (beginFrame s).lines = s.lines ∧ (beginFrame s).ageList = s.ageList ∧
    (beginFrame s).commitQueue = s.commitQueue ∧ (beginFrame s).ageTimer = s.ageTimer ∧
    (beginFrame s).regions = s.regions ∧ (beginFrame s).settings = s.settings ∧ (beginFrame s).port = s.port ∧
    (beginFrame s).portAnswer = s.portAnswer ∧ (beginFrame s).frontEnd = s.frontEnd ∧ (beginFrame s).scan = s.scan ∧
    (beginFrame s).log = s.log ∧ (beginFrame s).unit = s.unit := by unfold beginFrame; split <;> simp

@[simp] theorem startBit_frame (s : State) :
    (startBit s).cells = s.cells ∧ (startBit s).op = s.op ∧ (startBit s).job = s.job ∧
    (startBit s).buffer = s.buffer ∧ (startBit s).journals = s.journals ∧ (startBit s).quarantine = s.quarantine ∧
    (startBit s).lines = s.lines ∧ (startBit s).ageList = s.ageList ∧ (startBit s).commitQueue = s.commitQueue ∧
    (startBit s).ageTimer = s.ageTimer ∧ (startBit s).regions = s.regions ∧ (startBit s).settings = s.settings ∧
    (startBit s).port = s.port ∧ (startBit s).portAnswer = s.portAnswer ∧ (startBit s).frontEnd = s.frontEnd ∧
    (startBit s).scan = s.scan ∧ (startBit s).log = s.log ∧ (startBit s).unit = s.unit := by unfold startBit; split <;> simp

@[simp] theorem receiveByte_frame (s : State) (b : Byte) :
    (receiveByte s b).cells = s.cells ∧ (receiveByte s b).journals = s.journals ∧
    (receiveByte s b).ageTimer = s.ageTimer ∧ (receiveByte s b).frontEnd = s.frontEnd ∧
    (receiveByte s b).scan = s.scan := by
  unfold receiveByte
  split <;> simp

@[simp] theorem receiveBytes_frame (s : State) (bs : List Byte) :
    (receiveBytes s bs).cells = s.cells ∧ (receiveBytes s bs).journals = s.journals ∧
    (receiveBytes s bs).ageTimer = s.ageTimer ∧ (receiveBytes s bs).frontEnd = s.frontEnd ∧
    (receiveBytes s bs).scan = s.scan := by
  unfold receiveBytes
  induction bs generalizing s <;> simp_all

@[simp] theorem gapFound_frame (s : State) :
    (gapFound s).cells = s.cells ∧ (gapFound s).op = s.op ∧ (gapFound s).job = s.job ∧
    (gapFound s).buffer = s.buffer ∧ (gapFound s).journals = s.journals ∧ (gapFound s).quarantine = s.quarantine ∧
    (gapFound s).lines = s.lines ∧ (gapFound s).ageList = s.ageList ∧ (gapFound s).commitQueue = s.commitQueue ∧
    (gapFound s).ageTimer = s.ageTimer ∧ (gapFound s).regions = s.regions ∧ (gapFound s).settings = s.settings ∧
    (gapFound s).port = s.port ∧ (gapFound s).portAnswer = s.portAnswer ∧ (gapFound s).frontEnd = s.frontEnd ∧
    (gapFound s).scan = s.scan ∧ (gapFound s).log = s.log ∧ (gapFound s).unit = s.unit := by unfold gapFound; split <;> simp

@[simp] theorem framingErrorFound_frame (s : State) :
    (framingErrorFound s).cells = s.cells ∧ (framingErrorFound s).op = s.op ∧ (framingErrorFound s).job = s.job ∧
    (framingErrorFound s).buffer = s.buffer ∧ (framingErrorFound s).journals = s.journals ∧
    (framingErrorFound s).quarantine = s.quarantine ∧ (framingErrorFound s).lines = s.lines ∧
    (framingErrorFound s).ageList = s.ageList ∧ (framingErrorFound s).commitQueue = s.commitQueue ∧
    (framingErrorFound s).ageTimer = s.ageTimer ∧ (framingErrorFound s).regions = s.regions ∧
    (framingErrorFound s).settings = s.settings ∧ (framingErrorFound s).port = s.port ∧
    (framingErrorFound s).portAnswer = s.portAnswer ∧ (framingErrorFound s).frontEnd = s.frontEnd ∧
    (framingErrorFound s).scan = s.scan ∧ (framingErrorFound s).log = s.log ∧ (framingErrorFound s).unit = s.unit := by unfold framingErrorFound; split <;> simp

@[simp] theorem quietEnds_frame (s : State) :
    (quietEnds s).cells = s.cells ∧ (quietEnds s).op = s.op ∧ (quietEnds s).job = s.job ∧
    (quietEnds s).buffer = s.buffer ∧ (quietEnds s).journals = s.journals ∧ (quietEnds s).quarantine = s.quarantine ∧
    (quietEnds s).lines = s.lines ∧ (quietEnds s).ageList = s.ageList ∧ (quietEnds s).commitQueue = s.commitQueue ∧
    (quietEnds s).ageTimer = s.ageTimer ∧ (quietEnds s).regions = s.regions ∧ (quietEnds s).settings = s.settings ∧
    (quietEnds s).port = s.port ∧ (quietEnds s).portAnswer = s.portAnswer ∧ (quietEnds s).frontEnd = s.frontEnd ∧
    (quietEnds s).scan = s.scan ∧ (quietEnds s).log = s.log ∧ (quietEnds s).unit = s.unit := by simp [quietEnds]

@[simp] theorem breakFound_frame (s : State) :
    (breakFound s).cells = s.cells ∧ (breakFound s).op = s.op ∧ (breakFound s).job = s.job ∧
    (breakFound s).buffer = s.buffer ∧ (breakFound s).journals = s.journals ∧
    (breakFound s).quarantine = s.quarantine ∧ (breakFound s).lines = s.lines ∧ (breakFound s).ageList = s.ageList ∧
    (breakFound s).commitQueue = s.commitQueue ∧ (breakFound s).ageTimer = s.ageTimer ∧
    (breakFound s).regions = s.regions ∧ (breakFound s).settings = s.settings ∧ (breakFound s).port = s.port ∧
    (breakFound s).portAnswer = s.portAnswer ∧ (breakFound s).frontEnd = s.frontEnd ∧ (breakFound s).scan = s.scan ∧
    (breakFound s).log = s.log := by unfold breakFound; split <;> simp

@[simp] theorem linkMovesOn_frame (s : State) :
    (linkMovesOn s).cells = s.cells ∧ (linkMovesOn s).journals = s.journals ∧ (linkMovesOn s).ageTimer = s.ageTimer ∧
    (linkMovesOn s).frontEnd = s.frontEnd ∧ (linkMovesOn s).scan = s.scan := by unfold linkMovesOn; split <;> simp

@[simp] theorem responseEnds_frame (s : State) :
    (responseEnds s).cells = s.cells ∧ (responseEnds s).journals = s.journals ∧
    (responseEnds s).ageTimer = s.ageTimer ∧ (responseEnds s).frontEnd = s.frontEnd ∧
    (responseEnds s).scan = s.scan := by unfold responseEnds; split <;> simp

@[simp] theorem holdRequest_frame (s : State) (f : Frame) :
    (holdRequest s f).cells = s.cells ∧ (holdRequest s f).op = s.op ∧ (holdRequest s f).job = s.job ∧
    (holdRequest s f).buffer = s.buffer ∧ (holdRequest s f).journals = s.journals ∧
    (holdRequest s f).quarantine = s.quarantine ∧ (holdRequest s f).lines = s.lines ∧
    (holdRequest s f).ageList = s.ageList ∧ (holdRequest s f).commitQueue = s.commitQueue ∧
    (holdRequest s f).ageTimer = s.ageTimer ∧ (holdRequest s f).regions = s.regions ∧
    (holdRequest s f).settings = s.settings ∧ (holdRequest s f).port = s.port ∧
    (holdRequest s f).portAnswer = s.portAnswer ∧ (holdRequest s f).frontEnd = s.frontEnd ∧
    (holdRequest s f).scan = s.scan ∧ (holdRequest s f).log = s.log := by simp [holdRequest]

@[simp] theorem byteComes_frame (s : State) (b : Byte) :
    (byteComes s b).cells = s.cells ∧ (byteComes s b).journals = s.journals ∧
    (byteComes s b).ageTimer = s.ageTimer ∧ (byteComes s b).frontEnd = s.frontEnd ∧
    (byteComes s b).scan = s.scan := by
  unfold byteComes
  repeat' split
  all_goals simp

@[simp] theorem responseSentComes_frame (s : State) :
    (responseSentComes s).cells = s.cells ∧ (responseSentComes s).journals = s.journals ∧
    (responseSentComes s).ageTimer = s.ageTimer ∧ (responseSentComes s).frontEnd = s.frontEnd ∧
    (responseSentComes s).scan = s.scan := by
  unfold responseSentComes
  repeat' split
  all_goals simp

@[simp] theorem breakWithRequest_frame (s : State) (f : Frame) :
    (breakWithRequest s f).cells = s.cells ∧ (breakWithRequest s f).journals = s.journals ∧
    (breakWithRequest s f).ageTimer = s.ageTimer ∧ (breakWithRequest s f).frontEnd = s.frontEnd ∧
    (breakWithRequest s f).scan = s.scan := by
  unfold breakWithRequest
  repeat' split
  all_goals simp

@[simp] theorem breakComes_frame (s : State) :
    (breakComes s).cells = s.cells ∧ (breakComes s).journals = s.journals ∧
    (breakComes s).ageTimer = s.ageTimer ∧ (breakComes s).frontEnd = s.frontEnd ∧
    (breakComes s).scan = s.scan := by
  unfold breakComes
  split <;> simp

end Sys2Proof.Machine
end

