-- ==== Sys2Proof/Laws/LinkApart.lean ====
section
/-! SUPPORT. The operations on lines and the job choice look at neither the link record, nor the command unit, nor the counter of free
values: with others of these three they do the same. -/

namespace Sys2Proof.Machine

set_option Elab.async false

/-- `s` with another link record, command unit and counter. -/
def State.withLink (s : State) (l : Link) (un : CommandUnit) (k : Nat) : State := { s with link := l, unit := un, freeIndex := k }

variable (l : Link) (un : CommandUnit) (k : Nat)

theorem foldl_withLink {α : Type} {f : State → α → State} (hf : ∀ s a, f (s.withLink l un k) a = (f s a).withLink l un k)
    (is : List α) (s : State) : is.foldl f (s.withLink l un k) = (is.foldl f s).withLink l un k := by
  induction is generalizing s with
  | nil => rfl
  | cons i is ih => rw [List.foldl_cons, List.foldl_cons, hf, ih]

theorem sealLine_withLink (s : State) (i : LineNo) : sealLine (s.withLink l un k) i = (sealLine s i).withLink l un k := by
  unfold sealLine
  by_cases h : s.lines[i].state = .open
  · rw [if_pos (show (s.withLink l un k).lines[i].state = .open from h), if_pos h]
    rfl
  · rw [if_neg (show ¬(s.withLink l un k).lines[i].state = .open from h), if_neg h]

theorem sealAll_withLink (s : State) : sealAll (s.withLink l un k) = (sealAll s).withLink l un k :=
  foldl_withLink l un k (sealLine_withLink l un k) _ s

theorem retryLines_withLink (s : State) (p : PageNo) :
    retryLines (s.withLink l un k) p = (retryLines s p).withLink l un k :=
  foldl_withLink l un k (fun _ _ => rfl) _ s

theorem acceptIntoLine_withLink (s : State) (i : LineNo) (t : Transaction) (a : AccessKind) :
    acceptIntoLine (s.withLink l un k) i t a = (acceptIntoLine s i t a).withLink l un k := by
  unfold acceptIntoLine
  by_cases h : a = .through
  · rw [if_pos h, if_pos h]
    have e := sealLine_withLink l un k (updateLine s i fun l => { l with through := true }) i
    exact congrArg (fun u : State => { u with port := PortState.commitWait t a i }) e
  · rw [if_neg h, if_neg h]
    rfl

theorem refuse_withLink (s : State) (t : Transaction) (r : RefusedReason) :
    refuse (s.withLink l un k) t r = (refuse s t r).withLink l un k := by
  unfold refuse
  by_cases h : s.frontEnd = .ready ∨ s.frontEnd = .starting
  · rw [if_pos (show (s.withLink l un k).frontEnd = .ready ∨ (s.withLink l un k).frontEnd = .starting from h), if_pos h]
    rfl
  · rw [if_neg (show ¬((s.withLink l un k).frontEnd = .ready ∨ (s.withLink l un k).frontEnd = .starting) from h), if_neg h]
    rfl

theorem retakeHeldWrite_withLink (s : State) : retakeHeldWrite (s.withLink l un k) = (retakeHeldWrite s).withLink l un k := by
  unfold retakeHeldWrite
  rw [show (s.withLink l un k).port = s.port from rfl, show freeLineNo (s.withLink l un k) = freeLineNo s from rfl]
  cases s.port with
  | idle => rfl
  | commitWait t a i => rfl
  | held t a c w =>
    cases c with
    | start => rfl
    | bank => rfl
    | line =>
      cases freeLineNo s with
      | none => rfl
      | some i =>
        dsimp only
        rw [show isBlocked (s.withLink l un k) (transactionPage t) = isBlocked s (transactionPage t) from rfl,
          show isNamed (s.withLink l un k) (sectorOf (transactionPage t)) = isNamed s (sectorOf (transactionPage t)) from rfl]
        cases isBlocked s (transactionPage t) with
        | true => exact refuse_withLink l un k s t _
        | false =>
          cases isNamed s (sectorOf (transactionPage t)) with
          | true => exact refuse_withLink l un k s t _
          | false => exact acceptIntoLine_withLink l un k (openLine s i (transactionPage t) (writesOf t)) i t a

theorem discardLines_withLink (s : State) (p : PageNo) :
    discardLines (s.withLink l un k) p = (discardLines s p).withLink l un k := by
  unfold discardLines
  rw [show failedLinesOf (s.withLink l un k) p = failedLinesOf s p from rfl,
    foldl_withLink l un k (f := freeLine) (fun _ _ => rfl), retakeHeldWrite_withLink]

theorem startChoice_withLink (s : State) (c : Choice) :
    startChoice (s.withLink l un k) c = (startChoice s c).withLink l un k := by
  cases c with
  | restore b sec =>
    unfold startChoice startRestore
    dsimp only
    rw [show (s.withLink l un k).quarantine = s.quarantine from rfl]
    split <;> rfl
  | close b sec => rfl
  | commit i p => rfl

/-- The job choice starts the same job, whatever the link does. -/
theorem chooseJob_withLink (s : State) : chooseJob (s.withLink l un k) = (chooseJob s).withLink l un k := by
  unfold chooseJob
  rw [show nextJob (s.withLink l un k) = nextJob s from rfl]
  cases nextJob s with
  | none => rfl
  | some c => exact startChoice_withLink l un k s c

theorem setPending_withLink (s : State) (b : Bank) (p : PendingJob) :
    setPending (s.withLink l un k) b p = (setPending s b p).withLink l un k :=
  chooseJob_withLink l un k { s with quarantine := s.quarantine.set b { s.quarantine.get b with pending := p } }

end Sys2Proof.Machine
end

