-- ==== Sys2Proof/Laws/Memory.lean ====
section
/-! SUPPORT. The cell array: every operation keeps the canonical form, and what each cell reads as after it. -/

namespace Sys2Proof.Machine

set_option Elab.async false

theorem wf_tail {c : Host.Cell} {m : Memory} (h : Memory.wf (c :: m)) : Memory.wf m :=
  ⟨(List.pairwise_cons.1 h.1).2, fun d hd => h.2 d (List.mem_cons_of_mem _ hd)⟩

theorem wf_head_lt {c : Host.Cell} {m : Memory} (h : Memory.wf (c :: m)) : ∀ d ∈ m, c.1 < d.1 :=
  (List.pairwise_cons.1 h.1).1

/-- A cell below every listed key reads as an unlisted one. -/
theorem read_of_below {m : Memory} {a : Nat} (h : ∀ d ∈ m, a < d.1) : Memory.read m a = Config.erasedByte := by
  induction m with
  | nil => rfl
  | cons c m ih =>
    obtain ⟨k, w⟩ := c
    have hk : a < k := h (k, w) (by simp)
    simp only [Memory.read, if_neg (by omega : ¬ k = a)]
    exact ih fun d hd => h d (List.mem_cons_of_mem _ hd)

/-- The keys after a write are the old keys and the key written. -/
theorem key_mem_write {m : Memory} {a : Nat} {v : Byte} {d : Host.Cell} (h : d ∈ Memory.write m a v) :
    d ∈ m ∨ (d = (a, v) ∧ v ≠ Config.erasedByte) := by
  induction m with
  | nil =>
    unfold Memory.write at h
    split at h
    · simp at h
    · exact Or.inr ⟨by simpa using h, by assumption⟩
  | cons c m ih =>
    obtain ⟨k, w⟩ := c
    unfold Memory.write at h
    split at h
    · split at h
      · exact Or.inl h
      · rcases List.mem_cons.1 h with h | h
        · exact Or.inr ⟨h, by assumption⟩
        · exact Or.inl h
    · split at h
      · split at h
        · exact Or.inl (List.mem_cons_of_mem _ h)
        · rcases List.mem_cons.1 h with h | h
          · exact Or.inr ⟨h, by assumption⟩
          · exact Or.inl (List.mem_cons_of_mem _ h)
      · rcases List.mem_cons.1 h with h | h
        · exact Or.inl (by simp [h])
        · rcases ih h with h | h
          · exact Or.inl (List.mem_cons_of_mem _ h)
          · exact Or.inr h

/-- A write keeps the canonical form. -/
theorem write_wf {m : Memory} (a : Nat) (v : Byte) (h : Memory.wf m) : Memory.wf (Memory.write m a v) := by
  induction m with
  | nil =>
    unfold Memory.write
    split
    · exact h
    · exact ⟨by simp, by simpa using by assumption⟩
  | cons c m ih =>
    obtain ⟨k, w⟩ := c
    have hlt := wf_head_lt h
    unfold Memory.write
    split
    · split
      · exact h
      · refine ⟨List.pairwise_cons.2 ⟨fun d hd => ?_, h.1⟩, fun d hd => ?_⟩
        · rcases List.mem_cons.1 hd with rfl | hd
          · assumption
          · exact Nat.lt_trans (by assumption) (hlt d hd)
        · rcases List.mem_cons.1 hd with rfl | hd
          · assumption
          · exact h.2 d hd
    · split
      · split
        · exact wf_tail h
        · next heq hv =>
          refine ⟨List.pairwise_cons.2 ⟨fun d hd => ?_, (wf_tail h).1⟩, fun d hd => ?_⟩
          · exact heq ▸ hlt d hd
          · rcases List.mem_cons.1 hd with rfl | hd
            · exact hv
            · exact (wf_tail h).2 d hd
      · next hle hne =>
        have ih := ih (wf_tail h)
        refine ⟨List.pairwise_cons.2 ⟨fun d hd => ?_, ih.1⟩, fun d hd => ?_⟩
        · rcases key_mem_write hd with hd | ⟨rfl, _⟩
          · exact hlt d hd
          · show k < a
            omega
        · rcases List.mem_cons.1 hd with rfl | hd
          · exact h.2 (k, w) (by simp)
          · exact ih.2 d hd

/-- What a cell reads as after a write. -/
theorem read_write {m : Memory} (h : Memory.wf m) (a b : Nat) (v : Byte) :
    Memory.read (Memory.write m a v) b = if b = a then v else Memory.read m b := by
  induction m with
  | nil =>
    unfold Memory.write
    by_cases hv : v = Config.erasedByte <;> by_cases hb : b = a
    · simp [hv, Memory.read]
    · simp [hv, Memory.read]
    · subst hb
      simp [hv, Memory.read]
    · simp [hv, hb, Memory.read, Ne.symm hb]
  | cons c m ih =>
    obtain ⟨k, w⟩ := c
    have hlt := wf_head_lt h
    have ih := ih (wf_tail h)
    by_cases h1 : a < k
    · by_cases hv : v = Config.erasedByte
      · simp only [Memory.write, if_pos h1, if_pos hv]
        split
        · next hb =>
          subst hb
          rw [hv]
          exact read_of_below fun d hd => by
            rcases List.mem_cons.1 hd with rfl | hd
            · exact h1
            · exact Nat.lt_trans h1 (hlt d hd)
        · rfl
      · simp only [Memory.write, if_pos h1, if_neg hv, Memory.read, eq_comm (a := a)]
    · by_cases h2 : a = k
      · subst h2
        by_cases hv : v = Config.erasedByte
        · simp only [Memory.write, if_neg h1, if_true, if_pos hv]
          split
          · next hb =>
            subst hb
            rw [hv]
            exact read_of_below hlt
          · next hb => simp only [Memory.read, if_neg (Ne.symm hb)]
        · simp only [Memory.write, if_neg h1, if_true, if_neg hv, Memory.read, eq_comm (a := a)]
          split <;> simp_all
      · simp only [Memory.write, if_neg h1, if_neg h2, Memory.read, ih]
        by_cases hk : k = b
        · subst hk
          simp [Ne.symm h2]
        · simp [hk]

/-- An update keeps the canonical form. -/
theorem update_wf {m : Memory} (lo : Nat) (f : Nat → Byte → Byte) (n : Nat) (h : Memory.wf m) :
    Memory.wf (Memory.update m lo f n) := by
  induction n with
  | zero => exact h
  | succ n ih => exact write_wf _ _ ih

/-- What a cell reads as after an update: inside, the new byte of its offset; outside, what it read before. -/
theorem read_update {m : Memory} (lo : Nat) (f : Nat → Byte → Byte) (n : Nat) (h : Memory.wf m) (a : Nat) :
    Memory.read (Memory.update m lo f n) a =
      if lo ≤ a ∧ a < lo + n then f (a - lo) (Memory.read m a) else Memory.read m a := by
  induction n generalizing a with
  | zero => simp only [Memory.update]; rw [if_neg (by omega)]
  | succ n ih =>
    simp only [Memory.update]
    rw [read_write (update_wf lo f n h)]
    by_cases hb : a = lo + n
    · subst hb
      rw [if_pos rfl, if_pos (by omega)]
      congr 1
      omega
    · rw [if_neg hb, ih]
      by_cases hin : lo ≤ a ∧ a < lo + n
      · rw [if_pos hin, if_pos (by omega)]
      · rw [if_neg hin, if_neg (by omega)]

/-- A program pulse keeps the canonical form. -/
theorem programCells_wf {m : Memory} (cp : CellPage) (latch : Page) (left : PulseResidue) (h : Memory.wf m) :
    Memory.wf (programCells m cp latch left) := update_wf _ _ _ h

/-- An erase pulse keeps the canonical form. -/
theorem eraseCells_wf {m : Memory} (t : Target) (left : PulseResidue) (h : Memory.wf m) :
    Memory.wf (eraseCells m t left) := update_wf _ _ _ h

/-- What a reset leaves of a pulse in flight keeps the canonical form. -/
theorem cellsAfterReset_wf {m : Memory} (op : Option CellOp) (left : PulseResidue) (h : Memory.wf m) :
    Memory.wf (cellsAfterReset m op left) := by
  unfold cellsAfterReset
  split
  · exact update_wf _ _ _ h
  · exact update_wf _ _ _ h
  · exact h

/-- A byte of a page as read. -/
theorem readCells_get (m : Memory) (cp : CellPage) (x : Fin 64) :
    (readCells m cp)[x] = Memory.read m (cp.base + x.val) := by simp [readCells]

/-- BLANK says that every byte of the sector reads FFh. -/
theorem isBlank_iff (m : Memory) (t : Target) :
    isBlank m t = true ↔ ∀ o, o < t.size → Memory.read m (t.base + o) = 0xFF#8 := by
  simp [isBlank, List.all_eq_true]

/-- The reset memory is canonical. -/
theorem reset_cells_wf : Memory.wf State.reset.cells := ⟨List.Pairwise.nil, fun _ h => by cases h⟩

end Sys2Proof.Machine
end

