-- ==== Sys2Proof/Laws/PerInstr.lean ====
section
/-! SUPPORT. Per command: the opcode table gives no row bits, so no word spells it. -/

namespace Sys2Proof.Laws

/-- No word of bits spells the command. -/
def Spelled.Statement (i : Instr) : Prop := ∀ nbits w : Nat, decodeTableWord nbits w ≠ some i

theorem Spelled.powerOn (left : PulseResidue) : Spelled.Statement (.powerOn left) := fun _ _ h => nomatch h
theorem Spelled.resetPin (left : PulseResidue) : Spelled.Statement (.resetPin left) := fun _ _ h => nomatch h
theorem Spelled.resetRelease : Spelled.Statement (.resetRelease) := fun _ _ h => nomatch h
theorem Spelled.linkCommandReset (left : PulseResidue) : Spelled.Statement (.linkCommandReset left) := fun _ _ h => nomatch h
theorem Spelled.pwarnAsserted : Spelled.Statement (.pwarnAsserted) := fun _ _ h => nomatch h
theorem Spelled.pwarnDeasserted : Spelled.Statement (.pwarnDeasserted) := fun _ _ h => nomatch h
theorem Spelled.portTransaction (t : Transaction) : Spelled.Statement (.portTransaction t) := fun _ _ h => nomatch h
theorem Spelled.holdTimerExpiry : Spelled.Statement (.holdTimerExpiry) := fun _ _ h => nomatch h
theorem Spelled.startHoldResume : Spelled.Statement (.startHoldResume) := fun _ _ h => nomatch h
theorem Spelled.heldWriteRetaken : Spelled.Statement (.heldWriteRetaken) := fun _ _ h => nomatch h
theorem Spelled.heldReadEvaluated : Spelled.Statement (.heldReadEvaluated) := fun _ _ h => nomatch h
theorem Spelled.throughAnswer : Spelled.Statement (.throughAnswer) := fun _ _ h => nomatch h
theorem Spelled.ageTimerExpiry : Spelled.Statement (.ageTimerExpiry) := fun _ _ h => nomatch h
theorem Spelled.setupExpiry : Spelled.Statement (.setupExpiry) := fun _ _ h => nomatch h
theorem Spelled.pulseExpiry (left : PulseResidue) : Spelled.Statement (.pulseExpiry left) := fun _ _ h => nomatch h
theorem Spelled.holdExpiry : Spelled.Statement (.holdExpiry) := fun _ _ h => nomatch h
theorem Spelled.readPageComplete : Spelled.Statement (.readPageComplete) := fun _ _ h => nomatch h
theorem Spelled.blankCheckComplete : Spelled.Statement (.blankCheckComplete) := fun _ _ h => nomatch h
theorem Spelled.commit : Spelled.Statement (.commit) := fun _ _ h => nomatch h
theorem Spelled.restore : Spelled.Statement (.restore) := fun _ _ h => nomatch h
theorem Spelled.closeJob : Spelled.Statement (.closeJob) := fun _ _ h => nomatch h
theorem Spelled.replay : Spelled.Statement (.replay) := fun _ _ h => nomatch h
theorem Spelled.endOfStartup : Spelled.Statement (.endOfStartup) := fun _ _ h => nomatch h
theorem Spelled.drained : Spelled.Statement (.drained) := fun _ _ h => nomatch h
theorem Spelled.flushDeferredResponse : Spelled.Statement (.flushDeferredResponse) := fun _ _ h => nomatch h
theorem Spelled.syncByte (measured : Nat) (byte : Byte) (stop : Bool) : Spelled.Statement (.syncByte measured byte stop) := fun _ _ h => nomatch h
theorem Spelled.syncCandidateTimeout : Spelled.Statement (.syncCandidateTimeout) := fun _ _ h => nomatch h
theorem Spelled.gap : Spelled.Statement (.gap) := fun _ _ h => nomatch h
theorem Spelled.framingError : Spelled.Statement (.framingError) := fun _ _ h => nomatch h
theorem Spelled.quietWaitEnd : Spelled.Statement (.quietWaitEnd) := fun _ _ h => nomatch h
theorem Spelled.breakRecognised : Spelled.Statement (.breakRecognised) := fun _ _ h => nomatch h
theorem Spelled.overrun : Spelled.Statement (.overrun) := fun _ _ h => nomatch h
theorem Spelled.lengthFaultFrame (cmd tag len : Byte) : Spelled.Statement (.lengthFaultFrame cmd tag len) := fun _ _ h => nomatch h
theorem Spelled.badCommand (cmd tag : Byte) (args : List Byte) : Spelled.Statement (.badCommand cmd tag args) := fun _ _ h => nomatch h
theorem Spelled.responseSent : Spelled.Statement (.responseSent) := fun _ _ h => nomatch h
theorem Spelled.ident (tag : Byte) : Spelled.Statement (.ident tag) := fun _ _ h => nomatch h
theorem Spelled.status (tag : Byte) : Spelled.Statement (.status tag) := fun _ _ h => nomatch h
theorem Spelled.getRegion (tag n : Byte) : Spelled.Statement (.getRegion tag n) := fun _ _ h => nomatch h
theorem Spelled.setRegion (tag n valid : Byte) (base limit : BitVec 16) (kind delay : Byte) : Spelled.Statement (.setRegion tag n valid base limit kind delay) := fun _ _ h => nomatch h
theorem Spelled.getSettings (tag : Byte) : Spelled.Statement (.getSettings tag) := fun _ _ h => nomatch h
theorem Spelled.setSetting (tag field value : Byte) : Spelled.Statement (.setSetting tag field value) := fun _ _ h => nomatch h
theorem Spelled.flush (tag wait : Byte) : Spelled.Statement (.flush tag wait) := fun _ _ h => nomatch h
theorem Spelled.readFault (tag : Byte) : Spelled.Statement (.readFault tag) := fun _ _ h => nomatch h
theorem Spelled.ackFault (tag : Byte) (seq : BitVec 16) (clear : Byte) : Spelled.Statement (.ackFault tag seq clear) := fun _ _ h => nomatch h
theorem Spelled.retryPage (tag : Byte) (page : BitVec 16) : Spelled.Statement (.retryPage tag page) := fun _ _ h => nomatch h
theorem Spelled.discardPage (tag : Byte) (page : BitVec 16) : Spelled.Statement (.discardPage tag page) := fun _ _ h => nomatch h
theorem Spelled.restoreSector (tag bank : Byte) : Spelled.Statement (.restoreSector tag bank) := fun _ _ h => nomatch h
theorem Spelled.dropJournal (tag bank : Byte) : Spelled.Statement (.dropJournal tag bank) := fun _ _ h => nomatch h
theorem Spelled.resetPart (tag : Byte) : Spelled.Statement (.resetPart tag) := fun _ _ h => nomatch h
theorem Spelled.byteReceived (byte : Byte) : Spelled.Statement (.byteReceived byte) := fun _ _ h => nomatch h
theorem Spelled.syncCandidateBegin : Spelled.Statement (.syncCandidateBegin) := fun _ _ h => nomatch h
theorem Spelled.syncAnswerSent : Spelled.Statement (.syncAnswerSent) := fun _ _ h => nomatch h

end Sys2Proof.Laws
end

