-- ==== Sys2Proof/Laws/Reads.lean ====
section
/-! SUPPORT. What a read depends on, and which operations leave it alone: states that show the read path the same layers read alike;
sealing, taking, failing and answering leave the layers; the job choice and the end of a job change no layer but the buffer; and a
line that retires uncovers the layers below it (R85 to R89). -/

namespace Sys2Proof.Machine

set_option Elab.async false

/-- `t` shows the read path the lines of `s`: the same age list, and each line FREE in both or in neither, with the same page and
bytes. -/
def State.sameLines (s t : State) : Prop :=
  t.ageList = s.ageList ∧
    ∀ k : LineNo, (t.lines[k].state = .free ↔ s.lines[k].state = .free) ∧ t.lines[k].page = s.lines[k].page ∧
      t.lines[k].staged = s.lines[k].staged

/-- What line `k` gives for a byte: its staged byte when it is a non-FREE line of the page (R88). -/
def lineGives (s : State) (p : PageNo) (x : Fin 64) (k : LineNo) : Option Byte :=
  if s.lines[k].state ≠ .free ∧ s.lines[k].page = some p then s.lines[k].staged[x] else none

theorem lineByte_eq (s : State) (p : PageNo) (x : Fin 64) :
    lineByte s p x = s.ageList.reverse.findSome? (lineGives s p x) := rfl

theorem sameLines_refl (s : State) : s.sameLines s := ⟨rfl, fun _ => ⟨Iff.rfl, rfl, rfl⟩⟩

theorem sameLines_trans {s t u : State} (h : s.sameLines t) (h' : t.sameLines u) : s.sameLines u :=
  ⟨h'.1.trans h.1, fun k =>
    ⟨(h'.2 k).1.trans (h.2 k).1, (h'.2 k).2.1.trans (h.2 k).2.1, (h'.2 k).2.2.trans (h.2 k).2.2⟩⟩

/-- Equal lines and age list are the same lines. -/
theorem sameLines_of_eq {s t : State} (hl : t.lines = s.lines) (ha : t.ageList = s.ageList) : s.sameLines t :=
  ⟨ha, fun k => by rw [hl]; exact ⟨Iff.rfl, rfl, rfl⟩⟩

/-- The same lines give the same bytes. -/
theorem sameLines_lineByte {s t : State} (h : s.sameLines t) (p : PageNo) (x : Fin 64) : lineByte t p x = lineByte s p x := by
  rw [lineByte_eq, lineByte_eq, h.1]
  congr 1
  funext k
  obtain ⟨h1, h2, h3⟩ := h.2 k
  unfold lineGives
  rw [h2, h3]
  exact if_congr (and_congr_left' (not_congr h1)) rfl rfl

/-- The ground of a byte depends on the cells, the journals and the records alone (R86). -/
theorem groundByte_congr {s t : State} (hc : t.cells = s.cells) (hj : t.journals = s.journals)
    (hq : t.quarantine = s.quarantine) (p : PageNo) (x : Fin 64) : groundByte t p x = groundByte s p x := by
  unfold groundByte groundPage copyOf isNamed
  rw [hc, hj, hq]

theorem bufferByte_congr {s t : State} (hb : t.buffer = s.buffer) (p : PageNo) (x : Fin 64) :
    bufferByte t p x = bufferByte s p x := by
  unfold bufferByte
  rw [hb]

/-- States with the same lines, buffer, cells, journals and records read alike (R85). -/
theorem sameLines_readByte {s t : State} (h : s.sameLines t) (hb : t.buffer = s.buffer) (hc : t.cells = s.cells)
    (hj : t.journals = s.journals) (hq : t.quarantine = s.quarantine) (p : PageNo) (x : Fin 64) :
    readByte t p x = readByte s p x := by
  unfold readByte
  rw [sameLines_lineByte h, bufferByte_congr hb, groundByte_congr hc hj hq]

/-! ## Operations that keep the lines -/

theorem failLines_sameLines {s : State} {is : List LineNo} (h : ∀ i ∈ is, s.lines[i].state ≠ .free) :
    s.sameLines (is.foldl failLine s) := by
  refine ⟨(failLines_frame s is).2.2.2.2.2.2.1, fun k => ?_⟩
  rw [failLines_get]
  split
  · next hk => exact ⟨⟨fun e => (by cases e), fun e => absurd e (h k hk)⟩, rfl, rfl⟩
  · exact ⟨Iff.rfl, rfl, rfl⟩

theorem takeLines_sameLines {s : State} {is : List LineNo} (h : ∀ i ∈ is, s.lines[i].state ≠ .free) :
    s.sameLines (is.foldl takeLine s) := by
  refine ⟨(takeLines_frame s is).2.2.2.2.2.2.1, fun k => ?_⟩
  rw [takeLines_get]
  split
  · next hk => exact ⟨⟨fun e => (by cases e), fun e => absurd e (h k hk)⟩, rfl, rfl⟩
  · exact ⟨Iff.rfl, rfl, rfl⟩

/-- A change of a line that keeps its state, page and bytes. -/
theorem updateLine_sameLines (s : State) (i : LineNo) {f : Line → Line}
    (h : ∀ l, (f l).state = l.state ∧ (f l).page = l.page ∧ (f l).staged = l.staged) : s.sameLines (updateLine s i f) := by
  refine ⟨rfl, fun k => ?_⟩
  rw [updateLine_get]
  split
  · obtain ⟨h1, h2, h3⟩ := h s.lines[k]
    exact ⟨by rw [h1], h2, h3⟩
  · exact ⟨Iff.rfl, rfl, rfl⟩

theorem answerThrough_sameLines (s : State) : s.sameLines (answerThrough s) := by
  unfold answerThrough
  split
  · next t k i hp =>
    split
    · exact sameLines_refl s
    · split
      · exact sameLines_trans
          (updateLine_sameLines s i (f := fun l => { l with through := false }) fun _ => ⟨rfl, rfl, rfl⟩)
          (sameLines_of_eq rfl rfl)
      · exact sameLines_refl s
  · exact sameLines_refl s

/-- Handing lines back as FAILED, with the cascade, keeps the lines the read path sees (R88, R97). -/
theorem handBackFailed_sameLines (s : State) (is : List LineNo) : s.sameLines (handBackFailed s is) := by
  unfold handBackFailed
  refine sameLines_trans ?_ (answerThrough_sameLines _)
  rw [← List.foldl_append]
  refine failLines_sameLines fun i hi => ?_
  rcases List.mem_append.1 hi with h | h
  · have hs := (List.mem_filter.1 h).2
    intro e
    rw [e] at hs
    simp at hs
  · have hs := (List.mem_filter.1 h).2
    intro e
    rw [e] at hs
    simp at hs

/-- The entry cascade keeps the lines the read path sees (R88, R105). -/
theorem entryCascade_sameLines (s : State) (sec : SectorNo) : s.sameLines (entryCascade s sec) := by
  unfold entryCascade
  refine sameLines_trans (failLines_sameLines fun i hi => ?_) (answerThrough_sameLines _)
  have hs := (List.mem_filter.1 hi).2
  intro e
  rw [e] at hs
  simp at hs

/-! ## The job choice and the end of a job -/

/-- No line of the commit queue is FREE, the lines a job choice could take (R20). -/
def State.queueHeld (s : State) : Prop := ∀ i ∈ s.commitQueue, s.lines[i].state ≠ .free

theorem linesLaw_queueHeld {s : State} (h : s.linesLaw) : s.queueHeld := fun i hi e => by
  rw [(h.2.2 i).2.1.1 hi] at e
  cases e

/-- The job choice keeps the lines the read path sees. -/
theorem chooseJob_sameLines {s : State} (h : s.queueHeld) : s.sameLines (chooseJob s) := by
  unfold chooseJob
  split
  · next c hc =>
    cases c with
    | restore b sec =>
      unfold startChoice startRestore
      dsimp only
      split <;> exact sameLines_of_eq rfl rfl
    | close b sec => exact sameLines_of_eq rfl rfl
    | commit i p =>
      have hq : ∃ rest, s.commitQueue = i :: rest := by
        unfold nextJob at hc
        split at hc
        · have hp : ∀ b, pendingChoice s b ≠ some (.commit i p) := by
            intro b
            unfold pendingChoice
            split <;> simp
          have hh : headChoice s = some (.commit i p) := by
            cases h0 : pendingChoice s .bank0 with
            | some c0 => rw [h0] at hc; exact absurd (h0.trans hc) (hp _)
            | none =>
              rw [h0] at hc
              cases h1 : pendingChoice s .bank1 with
              | some c1 => rw [h1] at hc; exact absurd (h1.trans hc) (hp _)
              | none => rw [h1] at hc; exact hc
          unfold headChoice at hh
          split at hh
          · next k rest hq =>
            rw [Option.map_eq_some_iff] at hh
            obtain ⟨q, _, he⟩ := hh
            cases he
            exact ⟨rest, hq⟩
          · cases hh
        · cases hc
      obtain ⟨rest, hq⟩ := hq
      have hk := takeLines_sameLines (s := s) (is := [i]) fun m hm => by
        rw [List.mem_singleton.1 hm]
        exact h i (hq ▸ List.mem_cons_self)
      exact sameLines_trans hk (sameLines_of_eq rfl rfl)
  · exact sameLines_refl s

/-- A buffer that is not LOADED is no layer (R87). -/
theorem bufferByte_none {s : State} (h : ∀ sec img, s.buffer ≠ .loaded sec img) (p : PageNo) (x : Fin 64) :
    bufferByte s p x = none := by
  unfold bufferByte
  split
  · next sec img hb => exact absurd hb (h sec img)
  · rfl

/-- The job choice leaves the buffer, or makes it ASSEMBLING. -/
theorem chooseJob_buffer (s : State) :
    (chooseJob s).buffer = s.buffer ∨ ∃ sec img, (chooseJob s).buffer = .assembling sec img := by
  unfold chooseJob
  split
  · next c _ =>
    cases c with
    | restore b sec =>
      unfold startChoice startRestore
      dsimp only
      split
      · exact Or.inl rfl
      · exact Or.inr ⟨_, _, rfl⟩
    | close b sec => exact Or.inl rfl
    | commit i p => exact Or.inl rfl
  · exact Or.inl rfl

/-- Where no buffer is LOADED the job choice changes no byte that a read returns. -/
theorem chooseJob_readByte {s : State} (h : s.queueHeld) (hb : ∀ sec img, s.buffer ≠ .loaded sec img) (p : PageNo)
    (x : Fin 64) : readByte (chooseJob s) p x = readByte s p x := by
  have hb' : ∀ sec img, (chooseJob s).buffer ≠ .loaded sec img := by
    rcases chooseJob_buffer s with e | ⟨_, _, e⟩
    · rw [e]
      exact hb
    · rw [e]
      intro _ _ e'
      cases e'
  unfold readByte
  rw [sameLines_lineByte (chooseJob_sameLines h), bufferByte_none hb, bufferByte_none hb',
    groundByte_congr (chooseJob_frame s).1 (chooseJob_frame s).2.1 (chooseJob_frame s).2.2.1]

/-- After the end of a job a read finds the lines and the ground (R87). -/
theorem endJob_readByte {s : State} (h : s.queueHeld) (p : PageNo) (x : Fin 64) :
    readByte (endJob s) p x = (lineByte s p x).getD (groundByte s p x) := by
  have hc := chooseJob_readByte (s := { s with job := none, op := none, buffer := .empty }) h
    (fun _ _ e => by cases e) p x
  have he : readByte (endJob s) p x = readByte (chooseJob { s with job := none, op := none, buffer := .empty }) p x := by
    unfold endJob
    refine sameLines_readByte (sameLines_of_eq ?_ ?_) ?_ ?_ ?_ ?_ p x <;> simp
  rw [he, hc]
  unfold readByte
  rw [bufferByte_none (s := { s with job := none, op := none, buffer := .empty }) (fun _ _ e => by cases e)]
  cases hl : lineByte s p x with
  | some b => rw [show lineByte { s with job := none, op := none, buffer := .empty } p x = some b from hl]; rfl
  | none => rw [show lineByte { s with job := none, op := none, buffer := .empty } p x = none from hl]; rfl

/-- The evaluation of a held read changes no byte that a read returns (R84). -/
theorem evaluateHeldRead_readByte (b : Bank) (s : State) (p : PageNo) (x : Fin 64) :
    readByte (evaluateHeldRead b s) p x = readByte s p x := by
  refine sameLines_readByte (sameLines_of_eq ?_ ?_) ?_ ?_ ?_ ?_ p x <;> simp

/-! ## Lines that retire -/

/-- Where no write is held for a line, nothing is taken again. -/
theorem retakeHeldWrite_none {s : State} (h : s.holdsForLine = false) : retakeHeldWrite s = s := by
  unfold retakeHeldWrite
  split
  · next t k w hp =>
    unfold State.holdsForLine at h
    rw [hp] at h
    cases h
  · rfl

theorem answerThrough_holdsForLine {s : State} (h : s.holdsForLine = false) : (answerThrough s).holdsForLine = false := by
  unfold answerThrough
  repeat' split
  all_goals first | exact h | rfl

/-- Retiring several lines leaves the lines that remain. -/
theorem handBackRetired_sameLines {s : State} (h : s.holdsForLine = false) (is : List LineNo) :
    ((committingIn s is).foldl freeLine s).sameLines (handBackRetired s is) := by
  unfold handBackRetired
  rw [retakeHeldWrite_none]
  · exact answerThrough_sameLines _
  · refine answerThrough_holdsForLine ?_
    unfold State.holdsForLine at h ⊢
    rw [(freeLines_frame s (committingIn s is)).2.2.2.2.2.2.2.2.2.1]
    exact h

theorem findSome?_congr {f g : LineNo → Option Byte} {is : List LineNo} (h : ∀ k ∈ is, f k = g k) :
    is.findSome? f = is.findSome? g := by
  induction is with
  | nil => rfl
  | cons i is ih =>
    rw [List.findSome?_cons, List.findSome?_cons, h i List.mem_cons_self, ih fun k hk => h k (List.mem_cons_of_mem _ hk)]

/-- After some lines have been freed, a byte comes from the newest line that remains and holds it. -/
theorem freeLines_lineByte (s : State) (is : List LineNo) (hd : s.ageList.Nodup) (p : PageNo) (x : Fin 64) :
    lineByte (is.foldl freeLine s) p x = (s.ageList.reverse.filter fun k => !is.contains k).findSome? (lineGives s p x) := by
  rw [lineByte_eq, freeLines_ageList s is hd, List.filter_reverse]
  refine findSome?_congr fun k hk => ?_
  have hn : k ∉ is := by
    have := (List.mem_filter.1 (List.mem_reverse.1 hk)).2
    simpa using this
  unfold lineGives
  rw [freeLines_get, if_neg hn]

end Sys2Proof.Machine
end

