-- ==== Sys2Proof/Laws/Wire.lean ====
section
/-! SUPPORT. What the ten levels of a byte on the wire are, and that the receiver reads from them the byte that was sent, and from no
other levels. -/

namespace Sys2Proof.Machine

set_option Elab.async false

/-- The levels of a byte, one after another. -/
theorem wireBits_levels (b : Byte) :
    wireBits b = [false, b.getLsbD 0, b.getLsbD 1, b.getLsbD 2, b.getLsbD 3, b.getLsbD 4, b.getLsbD 5, b.getLsbD 6,
      b.getLsbD 7, true] := rfl

/-- The receiver reads the byte that was sent. -/
theorem receivedByte_wireBits (b : Byte) : receivedByte (wireBits b) = some b := by
  revert b
  decide +kernel

/-- Eight samples spell the byte whose bits they are. -/
theorem wireBits_sampledByte (b0 b1 b2 b3 b4 b5 b6 b7 : Bool) :
    wireBits (sampledByte [b0, b1, b2, b3, b4, b5, b6, b7]) = [false, b0, b1, b2, b3, b4, b5, b6, b7, true] := by
  revert b0 b1 b2 b3 b4 b5 b6 b7
  decide +kernel

/-- A byte is received from its own levels alone. -/
theorem receivedByte_eq_some {samples : List Bool} {b : Byte} (h : receivedByte samples = some b) : samples = wireBits b := by
  unfold receivedByte at h
  split at h
  · rw [← Option.some.inj h, wireBits_sampledByte]
  · cases h

/-- The sync byte falls five times, the fifth fall eight bit times after the first (R162). -/
theorem fallsOf_syncByte : fallsOf (wireBits 0x55#8) = [0, 2, 4, 6, 8] := by decide +kernel

end Sys2Proof.Machine
end

