-- ==== Sys2Proof/Tests/Slice0.lean ====
section
/-! SUPPORT. The model's own tests: ill-formed commands, small steps of the spec's worked sequences, and for every statement states and
operands that meet its hypotheses. -/

namespace Sys2Proof.Tests

set_option Elab.async false

open Sys2Proof Sys2Proof.Machine

/-! ## Well-formedness -/

theorem test_wf_residue_rising : WellFormed (.pulseExpiry [(3, 0#8), (7, 1#8)]) = true := by decide +kernel
theorem test_illformed_residue_order : WellFormed (.pulseExpiry [(7, 0#8), (3, 1#8)]) = false := by decide +kernel
theorem test_illformed_residue_twice : WellFormed (.powerOn [(7, 0#8), (7, 1#8)]) = false := by decide +kernel
theorem test_illformed_residue_offset : WellFormed (.resetPin [(1088, 0#8)]) = false := by decide +kernel
theorem test_illformed_link_reset_offset : WellFormed (.linkCommandReset [(1087, 0#8), (1088, 0#8)]) = false := by
  decide +kernel
theorem test_illformed_length_fault : WellFormed (.lengthFaultFrame 1#8 2#8 12#8) = false := by decide +kernel
theorem test_wf_length_fault : WellFormed (.lengthFaultFrame 1#8 2#8 13#8) = true := by decide +kernel
theorem test_illformed_bad_command_known : WellFormed (.badCommand 0x7F#8 2#8 []) = false := by decide +kernel
theorem test_illformed_bad_command_long : WellFormed (.badCommand 0x55#8 2#8 (List.replicate 13 0#8)) = false := by
  decide +kernel
theorem test_wf_bad_command : WellFormed (.badCommand 0x55#8 2#8 (List.replicate 12 0#8)) = true := by decide +kernel

/-! ## Helpers -/

/-- The state a command leaves. -/
def after (o : Host.Outcome State Fault Refusal) : Option State :=
  match o with
  | .next t => some t
  | _ => none

/-- READY with nothing staged. -/
def ready : State := { State.reset with frontEnd := .ready, ageTimer := some 1000 }

/-- `s` with the link ready for a frame. -/
def linked (s : State) : State := { s with link := { s.link with state := .idle, bitTime := some 64000 } }

/-- A write of the two bytes 34h, 12h at an even address, its strobes right. -/
def write2 (a : BitVec 18) : Transaction :=
  { address := a, size := 2, direction := .write, strobes := 3#4 <<< (a.toNat % 4),
    data := 0x1234#32 <<< (8 * (a.toNat % 4)) }

/-- A read of four bytes. -/
def read4 (a : BitVec 18) : Transaction := { address := a, size := 4, direction := .read, strobes := 0#4, data := 0#32 }

/-- A line of page 37 with byte 0 staged as 12h. -/
def line37 (st : LineState) : Line :=
  { state := st, page := some 37, staged := (Vector.replicate 64 none).set 0 (some 0x12#8), age := 3, through := false }

/-- READY with line 0 holding page 37 in a state other than FREE. -/
def withLine (st : LineState) : State :=
  { ready with
    lines := ready.lines.set 0 (line37 st), ageList := [0], commitQueue := if st = .sealed then [0] else [] }

/-- A line of page 32 + n with byte n staged. -/
def lineOf (st : LineState) (n : LineNo) : Line :=
  { state := st, page := some ⟨32 + n.val, by omega⟩,
    staged := (Vector.replicate 64 none).set n.val (some 0x12#8) (by omega), age := 0, through := false }

/-- READY with all eight lines OPEN, pages 32 to 39. -/
def allOpen : State := { ready with lines := Vector.ofFn (lineOf .open), ageList := List.finRange 8 }

/-- READY with all eight lines SEALED and a COMMIT of line 0 yet to start. -/
def allSealed : State :=
  { ready with lines := Vector.ofFn (lineOf .sealed), ageList := List.finRange 8, commitQueue := List.finRange 8 }

/-- A COMMIT of page 37 in a stage, its line 0 COMMITTING, with a loop. -/
def committing (st : Stage) (lp : Option Loop) : State :=
  { withLine .committing with
    job := some { freshJob .commit 2 st with head := some 0, page := some 37, loop := lp } }

/-- A rewrite of sector 2 in a stage, head line 0 of page 37 COMMITTING, with a loop. -/
def rewriting (st : Stage) (lp : Option Loop) : State :=
  { withLine .committing with
    journals := { zero := .blank, one := .spent },
    job := some { freshJob .rewrite 2 st with
      head := some 0, page := some 37, loop := lp, copyCheck := some 0#16, headerImage := some (headerImageOf 2 0#16) } }

/-- A recovery job of sector 2 in a stage, with a loop; its record names the sector and J1 is OPEN for it. -/
def recovering (k : JobKind) (st : Stage) (lp : Option Loop) : State :=
  { ready with
    journals := { zero := .blank, one := .openFor 2 },
    quarantine := { zero := { sector := some 2, ground := .copy, pending := .none }, one := .afterReset },
    job := some { freshJob k 2 st with loop := lp } }

/-- READY with sector 2 quarantined and a pending job. -/
def quarantined (g : Ground) (p : PendingJob) : State :=
  { ready with
    journals := { zero := .blank, one := .openFor 2 },
    quarantine := { zero := { sector := some 2, ground := g, pending := p }, one := .afterReset } }

/-- STARTING at a step of the scan, with an operation in flight. -/
def scanning (sc : Scan) (o : Option CellOp) : State := { State.reset with frontEnd := .starting, scan := sc, op := o }

/-- A fault log of one entry, number 65535. -/
def oneFault : FaultLog :=
  { entries := [{ seq := 0xFFFF#16, kind := .replayed 2 }], dropped := 3, nextSeq := 0 }

/-- `s` with an operation in flight. -/
def withOp (o : CellOp) (s : State) : State := { s with op := some o }

/-- READY with the link in a state and a frame in progress. -/
def framed (st : LinkState) (f : FrameInProgress) : State :=
  { linked ready with link := { (linked ready).link with state := st, frame := some f } }

/-- READY with the link BUSY, something being sent and a buffered frame. -/
def sending (tr : Transmitter) (b : Option Frame) : State :=
  { linked ready with link := { (linked ready).link with state := .busy, transmitter := tr, buffered := b } }

/-- The request frame of IDENT with TAG 7. -/
def identFrame : Frame := .whole 0x01#8 0x07#8 0x00#8 [] 0xF8#8

/-- READY with the command unit holding the request of IDENT, its OVERRUN flag as given. -/
def holding (overrun : Bool) : State :=
  { linked ready with
    link := { (linked ready).link with state := .busy, overrunFlag := overrun },
    unit := { request := some identFrame, deferred := none, resetDue := false } }

/-- An IDLE link whose sync answer waits for a byte that a break let complete. -/
def answeringBehind (b : Byte) : State :=
  { linked ready with link := { (linked ready).link with transmitter := .syncAnswer none, completing := some b } }

/-- An image of sector 2 whose page 5, page 37 of the part, holds 12h in byte 0, and FFh elsewhere. -/
def image37 : Image := erasedImage.set 5 (erasedPage.set 0 0x12#8)

/-- A rewrite of sector 2 that has its image in the buffer: J1 OPEN for it, or not, its copy and its cells as given. -/
def rebuilt (st : Stage) (lp : Option Loop) (o : CellOp) (j1 : JournalState) (cells : Memory) : State :=
  { rewriting st lp with
    op := some o, buffer := .loaded 2 image37, journals := { zero := .blank, one := j1 }, cells := cells }

/-! ## Small steps of the worked sequences -/

/-- A two-byte write to page 37 opens line 0 (section 2.9). -/
theorem test_write_opens : (after (exec (.portTransaction (write2 0x940#18)) ready)).map
    (fun t => (t.lines[0].state, (t.lines[0].staged.toList.take 3), t.ageList, t.portAnswer)) =
    some (.open, [some 0x34#8, some 0x12#8, none], [0], some (.okay [])) := by decide +kernel

/-- A read of the page takes the staged bytes from the line and the others from the cells (section 5.9). -/
theorem test_read_overlays : (after (exec (.portTransaction (read4 0x940#18)) (withLine .failed))).map (fun t => t.portAnswer) =
    some (some (.okay [(0, 0x12#8), (1, 0xFF#8), (2, 0xFF#8), (3, 0xFF#8)])) := by decide +kernel

/-- A misaligned write is refused ALIGN with an entry. -/
theorem test_align_refused : (after (exec (.portTransaction { write2 0x940#18 with strobes := 1#4 }) ready)).map
    (fun t => (t.portAnswer, t.log.entries.length)) = some (some (.error (.refused .align)), 1) := by decide +kernel

/-- A write with no FREE line seals the oldest OPEN line, which the job choice takes, and is held (section 2.10). -/
theorem test_pressure_seal : (after (exec (.portTransaction (write2 0x0#18)) allOpen)).map
    (fun t => (t.lines[0].state, t.commitQueue, t.port)) =
    some (.committing, [], .held (write2 0x0#18) .buffered .line 2048) := by decide +kernel

/-- The fourth age expiry seals a line (section 2.6.1). -/
theorem test_age_seals : (after (exec .ageTimerExpiry (withLine .open))).map
    (fun t => (t.lines[0].state, t.lines[0].age, t.ageTimer)) = some (.committing, 4, some 1000) := by decide +kernel

/-- The pre-read of a page with a bit to clear starts the first pulse (section 3.10). -/
theorem test_preread_starts_pulse :
    (after (exec .readPageComplete { committing .preRead none with op := some (.readPage (.user 37)) })).map
      (fun t => (t.op.map CellOp.target, phaseTimerState t, phaseTimerLoad t)) =
    some (some (.user 2), .setup, some 10) := by decide +kernel

/-- SETUP of an erase pulse ends with the width 4 × 250 µs (section 1.10). -/
theorem test_erase_width :
    (after (exec .setupExpiry { ready with op := some (.erasePulse (.user 140) .setup) })).map phaseTimerLoad =
    some (some 1000) := by decide +kernel

/-- A program pulse clears the latch bits of its page. -/
theorem test_program_pulse : (after (exec (.pulseExpiry [])
    { ready with op := some (.programPulse (.user 37) (erasedPage.set 0 0x12#8) (.pulse 20)) })).map (fun t => t.cells) =
    some [(2368, 0x12#8)] := by decide +kernel

/-- The classification of a blank J0 goes on to J1. -/
theorem test_scan_blank : (after (exec .blankCheckComplete
    (scanning (.blankCheck .j0) (some (.blankCheck (.journal .j0)))))).map (fun t => (t.journals.zero, t.scan)) =
    some (.blank, .blankCheck .j1) := by decide +kernel

/-- IDENT on a link that is ready: the response frame, CHECK included. -/
theorem test_ident_response : (after (exec (.ident 0x07#8) (linked ready))).map (fun t => t.link.transmitter) =
    some (.response [0x00#8, 0x07#8, 0x00#8, 0x08#8, 0xA1#8, 0x25#8, 0x01#8, 0x00#8, 0x10#8, 0x10#8, 0x08#8, 0x10#8,
      0xF2#8] false) := by decide +kernel

/-- ACK_FAULT of the entry the log holds empties it. -/
theorem test_ack_removes : (after (exec (.ackFault 1#8 0xFFFF#16 1#8) { linked ready with log := oneFault })).map
    (fun t => (t.log, alertOutput t)) = some ({ entries := [], dropped := 0, nextSeq := 0 }, false) := by decide +kernel

/-! ## The hypotheses of the statements are met -/

theorem test_lines_law_ready : ready.linesLaw := ⟨by decide +kernel, by decide +kernel, by decide +kernel⟩
theorem test_lines_law_open : (withLine .open).linesLaw := ⟨by decide +kernel, by decide +kernel, by decide +kernel⟩
theorem test_lines_law_failed : (withLine .failed).linesLaw := ⟨by decide +kernel, by decide +kernel, by decide +kernel⟩
theorem test_lines_law_committing : (committing .preRead none).linesLaw :=
  ⟨by decide +kernel, by decide +kernel, by decide +kernel⟩
/-- IdentReturnsTheIdentityBlock, ReadingCommandsReturnWhatStands and the other statements of service commands: a ready link, in READY
and in STARTING. -/
theorem test_link_ready : (linked ready).linkReady :=
  ⟨by decide +kernel, by decide +kernel, by decide +kernel, by decide +kernel, by decide +kernel, by decide +kernel,
   by decide +kernel⟩
theorem test_link_ready_starting : (linked (scanning .ended none)).linkReady :=
  ⟨by decide +kernel, by decide +kernel, by decide +kernel, by decide +kernel, by decide +kernel, by decide +kernel,
   by decide +kernel⟩
theorem test_port_ready : ready.portReady := ⟨by decide +kernel, by decide +kernel, by decide +kernel⟩
theorem test_nothing_to_start : ready.nothingToStart := Or.inr ⟨by decide +kernel, by decide +kernel, by decide +kernel⟩
theorem test_cells_canonical : ({ ready with cells := [(64, 0x12#8), (65, 0x00#8)] } : State).cellsCanonical :=
  ⟨by decide +kernel, by decide +kernel⟩

/-- PortTakesTheOldestTransaction: one that waits goes first; RESETn low or a busy port lets it wait; an empty queue. -/
theorem test_meets_port_takes :
    ((ready.port = .idle ∧ ready.frontEnd ≠ .inReset ∧
      ({ ready with bus := [read4 64#18] } : State).bus ++ [write2 0#18] = read4 64#18 :: [write2 0#18]) ∧
    State.reset.frontEnd = .inReset ∧ ready.pending = [] ∧ ready.bus = []) := by decide +kernel

/-- ResetsLeaveEveryBlockReset: RESETn high and low, a reset due and none due. -/
theorem test_meets_resets : ready.resetnLow = false ∧ ({ ready with resetnLow := true } : State).resetnLow = true ∧
    ready.unit.resetDue = false ∧ ({ ready with unit := { request := none, deferred := none, resetDue := true } } : State).unit.resetDue = true :=
  by decide +kernel

/-- ResetLeavesCellsByPhase and EveryPulseResultIsReached: a pulse in its pulse phase with a result its rule allows; and neither. -/
theorem test_meets_pulse_results :
    (∀ x : Fin 64, (erasedPage.set 0 0x12#8)[x] &&& Memory.read [] ((CellPage.user 37).base + x.val) =
      (erasedPage.set 0 0x12#8)[x]) ∧
    (∀ o, o < (Target.user 2).size → (0xFF#8 : Byte) ||| Memory.read [(2048, 0x00#8)] ((Target.user 2).base + o) = 0xFF#8) ∧
    ((CellPage.user 37).base ≤ 2368 ∧ 2368 < (CellPage.user 37).base + 64) ∧
    ((Target.user 2).base ≤ 3071 ∧ 3071 < (Target.user 2).base + (Target.user 2).size) ∧
    ¬ 3072 < (Target.user 2).base + (Target.user 2).size := by decide +kernel
theorem test_meets_no_pulse : (∀ cp latch w, ready.op ≠ some (.programPulse cp latch (.pulse w))) ∧
    ∀ g w, ready.op ≠ some (.erasePulse g (.pulse w)) := by
  constructor <;> intros <;> simp [ready, State.reset]

/-- ResetLeavesCellsByPhase: the pin, and a due reset of the link, cut a pulse short. -/
theorem test_meets_reset_causes :
    (after (exec (.resetPin [(0, 0x12#8)]) (withOp (.programPulse (.user 37) erasedPage (.pulse 20)) ready))).map
      (fun t => (t.cells, t.resetCause)) = some ([(2368, 0x12#8)], .resetPin) ∧
    (after (exec (.linkCommandReset [(0, 0x12#8)]) { withOp (.programPulse (.user 37) erasedPage (.pulse 20)) ready with
      unit := { request := none, deferred := none, resetDue := true } })).map
      (fun t => (t.cells, t.resetCause)) = some ([(2368, 0x12#8)], .linkCommand) := by decide +kernel

/-- StartUpBeginsAndEnds: a transaction that waits at release, aligned and misaligned; one held for the end of start-up. -/
theorem test_meets_release_takes : State.reset.frontEnd = .inReset ∧ State.reset.port = .idle ∧
    passesAlignment (read4 0x940#18) = true ∧ passesAlignment (read4 0x941#18) = false ∧
    kindOf State.reset 37 = .buffered ∧
    kindOf { State.reset with settings := { Settings.afterReset with defaultKind := .noAccess } } 37 = .noAccess ∧
    kindOf { State.reset with settings := { Settings.afterReset with defaultKind := .readOnly } } 37 = .readOnly ∧
    ({ scanning .ended none with port := .held (write2 0#18) .buffered .start 2048 } : State).portAwaitsStart = true ∧
    ({ scanning .ended none with pwarnNoted := true } : State).pwarnNoted = true := by decide +kernel

/-- StartUpBeginsAndEnds: in reset, out of reset, and at the end of the scan, PWARN noted low and high. -/
theorem test_meets_start_up : State.reset.frontEnd = .inReset ∧ ready.frontEnd ≠ .inReset ∧
    ((scanning .ended none).frontEnd = .starting ∧ (scanning .ended none).scan = .ended ∧
     (scanning .ended none).port = .idle ∧ (scanning .ended none).job = none ∧ (scanning .ended none).commitQueue = [] ∧
     (scanning .ended none).ageList = [] ∧ (scanning .ended none).quarantine.zero.pending = .none ∧
     (scanning .ended none).quarantine.one.pending = .none) := by decide +kernel

/-- PwarnAssertedBeginsTheDrain, PwarnDeassertedReturnsToReady: each front-end state is taken by some state. -/
theorem test_meets_pwarn : (withLine .open).frontEnd = .ready ∧ (scanning .off none).frontEnd = .starting ∧
    ({ ready with frontEnd := .draining } : State).frontEnd = .draining ∧
    ({ ready with frontEnd := .drained } : State).frontEnd = .drained ∧
    linesByAge (withLine .open) .open = [0] ∧
    ({ allOpen with port := .held (write2 0#18) .buffered .line 2048 } : State).holdsForLine = true := by decide +kernel

/-- DrainTestAssertsDrained: the test met, and not met by a queued line. -/
theorem test_meets_drain_test : (({ ready with frontEnd := .draining } : State).commitQueue = [] ∧
    ({ ready with frontEnd := .draining } : State).job = none) ∧ (withLine .sealed).commitQueue ≠ [] := by decide +kernel

/-- RefusalsAtAcceptance: misaligned; NO_ACCESS; READ_ONLY; DRAINED; a quarantined sector; a blocked page. -/
theorem test_meets_refusals :
    passesAlignment { write2 0x941#18 with size := 3 } = false ∧ passesAlignment (write2 0x941#18) = false ∧
    passesAlignment (write2 0x940#18) = true ∧ (write2 0x940#18).direction = .write ∧
    kindOf { ready with settings := { Settings.afterReset with defaultKind := .noAccess } } 37 = .noAccess ∧
    kindOf { ready with settings := { Settings.afterReset with defaultKind := .readOnly } } 37 = .readOnly ∧
    kindOf ready (transactionPage (write2 0x940#18)) = .buffered ∧
    isNamed (quarantined .copy .none) (sectorOf (transactionPage (write2 0x940#18))) = true ∧
    isNamed (withLine .failed) (sectorOf (transactionPage (write2 0x940#18))) = false ∧
    isBlocked (withLine .failed) (transactionPage (write2 0x940#18)) = true := by decide +kernel

/-- StartingHoldsTransactions: an aligned write in STARTING on an IDLE port. -/
theorem test_meets_starting : (scanning .off none).portReady := ⟨by decide +kernel, by decide +kernel, by decide +kernel⟩
theorem test_meets_starting_kind : (scanning .off none).frontEnd = .starting ∧ passesAlignment (write2 0x940#18) = true ∧
    kindOf (scanning .off none) (transactionPage (write2 0x940#18)) ≠ .noAccess := by decide +kernel

/-- WriteOpensTheLowestFreeLine: no OPEN line of the page, line 1 FREE and line 0 not; BUFFERED and THROUGH. -/
theorem test_meets_open :
    isBlocked (withLine .sealed) (transactionPage (write2 0x940#18)) = false ∧
    (∀ k : LineNo, ¬((withLine .sealed).lines[k].state = .open ∧
      (withLine .sealed).lines[k].page = some (transactionPage (write2 0x940#18)))) ∧
    (withLine .sealed).lines[1].state = .free ∧
    (∀ k : LineNo, k < 1 → (withLine .sealed).lines[k].state ≠ .free) ∧
    kindOf (withLine .sealed) 37 = .buffered ∧
    kindOf { withLine .sealed with settings := { Settings.afterReset with defaultKind := .through } } 37 = .through := by
  decide +kernel

/-- WriteMergesIntoTheOpenLine: one OPEN line of the page, not filled by the write; and filled by it. -/
theorem test_meets_merge :
    (withLine .open).lines[0].state = .open ∧ (withLine .open).lines[0].page = some (transactionPage (write2 0x940#18)) ∧
    (∀ k : LineNo, (withLine .open).lines[k].state = .open →
      (withLine .open).lines[k].page = some (transactionPage (write2 0x940#18)) → k = 0) ∧
    ¬ fillsPage (writtenOver (line37 .open).staged (write2 0x940#18)) ∧
    fillsPage (writtenOver ((filledWith erasedPage).set 63 none) (write2 0x97E#18)) := by decide +kernel

/-- WriteWithoutFreeLineIsHeld: all lines OPEN; all lines SEALED. -/
theorem test_meets_no_free_line :
    (∀ k : LineNo, allOpen.lines[k].state ≠ .free) ∧ isBlocked allOpen (transactionPage (write2 0#18)) = false ∧
    (∀ k : LineNo, ¬(allOpen.lines[k].state = .open ∧ allOpen.lines[k].page = some (transactionPage (write2 0#18)))) ∧
    linesByAge allOpen .open = 0 :: [1, 2, 3, 4, 5, 6, 7] ∧
    (∀ k : LineNo, allSealed.lines[k].state ≠ .free) ∧ linesByAge allSealed .open = [] := by decide +kernel

/-- ReadIsServedOrHeldForItsBank, HeldReadIsEvaluated: no bank needed; a bank that is not busy; a busy bank; the other bank. -/
theorem test_meets_read :
    neededBank { withLine .open with lines := ready.lines.set 0 { line37 .open with staged := filledWith erasedPage } }
      (read4 0x940#18) = none ∧
    (neededBank ready (read4 0x940#18) = some .bank0 ∧ bankBusy ready .bank0 = false) ∧
    (neededBank (committing .preRead none) (read4 0x940#18) = some .bank0 ∧
      bankBusy { committing .preRead none with op := some (.readPage (.user 37)) } .bank0 = true) ∧
    neededBank (quarantined .copy .none) (read4 0x940#18) = some .bank1 ∧ kindOf ready 37 ≠ .noAccess := by decide +kernel
/-- ReadIsServedOrHeldForItsBank: the operations at the bounds of the banks; bytes that fall through, to cells and to a copy. -/
theorem test_meets_banks :
    bankBusy (withOp (.readPage (.user 2047)) ready) .bank0 = true ∧
    bankBusy (withOp (.programPulse (.user 2048) erasedPage .setup) ready) .bank1 = true ∧
    bankBusy (withOp (.blankCheck (.user 127)) ready) .bank0 = true ∧
    bankBusy (withOp (.erasePulse (.user 128) .setup) ready) .bank1 = true ∧
    bankBusy (withOp (.readPage (headerPage .j0)) ready) .bank0 = true ∧
    bankBusy (withOp (.erasePulse (.journal .j1) .setup) ready) .bank1 = true ∧ bankBusy ready .bank0 = false := by
  decide +kernel
theorem test_meets_falls_through : (withLine .open).fallsThrough 37 1 ∧ ¬ (withLine .open).fallsThrough 37 0 ∧
    ready.groundIsCells 2 ∧ (quarantined .cells .none).groundIsCells 2 ∧ ¬ (quarantined .copy .none).groundIsCells 2 := by
  refine ⟨⟨by decide +kernel, fun _ h => nomatch h⟩, fun h => absurd h.1 (by decide +kernel), Or.inl fun j => ?_,
    Or.inr (by decide +kernel), ?_⟩
  · cases j <;> decide +kernel
  · rintro (h | h)
    · exact absurd rfl (h .j1)
    · exact absurd h (by decide +kernel)
theorem test_meets_no_held_read : ∀ t k w, ready.port ≠ .held t k .bank w := fun _ _ _ h => nomatch h

/-- OverlayOrder: a line that holds the byte, a LOADED buffer, an OPEN journal with ground COPY and with ground CELLS, the cells. -/
theorem test_meets_overlay :
    ((withLine .open).ageList = [] ++ 0 :: [] ∧ (withLine .open).lines[0].state ≠ .free ∧
      (withLine .open).lines[0].page = some 37 ∧ (withLine .open).lines[0].staged[0] = some 0x12#8) ∧
    ready.ageList = [] ∧ (quarantined .copy .none).journals.one = .openFor (sectorOf 37) ∧
    (quarantined .copy .none).journals.zero ≠ .openFor (sectorOf 37) ∧
    ((quarantined .cells .none).quarantine.get (bankOf (sectorOf 37))).sector = some (sectorOf 37) ∧
    ((quarantined .cells .none).quarantine.get (bankOf (sectorOf 37))).ground = .cells ∧
    ready.journals.zero ≠ .openFor (sectorOf 37) := by decide +kernel

/-- HoldExpiryRefusesByCause, StartHoldTakesTheRestOfItsChecks, HeldWriteIsTakenAgain, ThroughAnswerFollowsTheLine: the port states
are values of their type, with every line FREE, with one FREE below none, and with a line in each outcome. -/
theorem test_meets_holds :
    ({ ready with port := .held (write2 0#18) .buffered .start 2048 } : State).port =
      .held (write2 0#18) .buffered .start 2048 ∧
    (∀ i : LineNo, ready.lines[i].state = .free) ∧
    (∀ k : LineNo, k < 1 → (withLine .failed).lines[k].state ≠ .free) ∧ (withLine .failed).lines[1].state = .free ∧
    isBlocked (withLine .failed) 37 = true ∧ isBlocked ready 37 = false ∧ isNamed (quarantined .copy .none) 2 = true ∧
    (withLine .committing).lines[0].state = .committing := by decide +kernel

/-- StartHoldTakesTheRestOfItsChecks: a write refused in DRAINED and by quarantine, one opened, and a read served. -/
theorem test_start_hold_resumes :
    ((after (exec .startHoldResume { ready with frontEnd := .drained, port := .held (write2 0x940#18) .buffered .start 9 })).bind
      fun t => t.portAnswer) = some (.error .drain) ∧
    ((after (exec .startHoldResume
      { quarantined .copy .none with port := .held (write2 0x940#18) .buffered .start 9 })).bind fun t => t.portAnswer) =
      some (.error (.refused .quarantine)) ∧
    ((after (exec .startHoldResume { ready with port := .held (write2 0x940#18) .through .start 9 })).map fun t =>
      (t.port, t.lines[0].state)) = some (.commitWait (write2 0x940#18) .through 0, .committing) ∧
    ((after (exec .startHoldResume { ready with port := .held (read4 0x940#18) .buffered .start 9 })).map fun t => t.port) =
      some .idle := by decide +kernel

/-- HeldReadIsEvaluated: a read held for the bank of the operation in flight, for the other bank, and for none. -/
theorem test_held_read_evaluates :
    (after (exec .heldReadEvaluated (withOp (.readPage (.user 37))
      { ready with port := .held (read4 0x940#18) .buffered .bank 9 }))).map (fun t => t.port) =
      some (.held (read4 0x940#18) .buffered .bank 9) ∧
    (after (exec .heldReadEvaluated (withOp (.readPage (.user 2048))
      { ready with port := .held (read4 0x940#18) .buffered .bank 9 }))).map (fun t => t.port) = some .idle := by
  decide +kernel

/-- AgeExpiryAgesAndSeals: the timer STOPPED and RUNNING, a line whose age reaches its delay at this expiry. -/
theorem test_meets_age : State.reset.ageTimer = none ∧ (withLine .open).ageTimer.isSome = true ∧
    (withLine .open).ageReached 0 = true := by decide +kernel

/-- PhaseTimerRunsAPulse: HOLD with a program loop and with an erase loop. -/
theorem test_meets_phase_timer :
    ({ committing .program (some (.program (.user 37) erasedPage erasedPage 1)) with
        op := some (.programPulse (.user 37) erasedPage (.hold 20)) } : State).op =
      some (.programPulse (.user 37) erasedPage (.hold 20)) ∧
    (rewriting .targetErase (some (.erase (.user 2) 1))).job.map (fun j => j.loop) = some (some (.erase (.user 2) 1)) := by
  decide +kernel

/-- PreReadDecides: an image equal to the page as read, one with a bit to set, one with a bit to clear. -/
theorem test_meets_pre_read :
    ((committing .preRead none).job.map fun j => (j.kind, j.stage, j.head, j.members)) = some (.commit, .preRead, some 0, []) ∧
    ((committing .preRead none).job.bind fun j => j.page) = some 37 ∧
    (committing .preRead none).lines[0].state = .committing ∧
    overlay (line37 .committing).staged (readCells [(2368, 0x12#8)] (.user 37)) = readCells [(2368, 0x12#8)] (.user 37) ∧
    (∃ x : Fin 64, (overlay (line37 .committing).staged (readCells [(2368, 0x02#8)] (.user 37)))[x] &&&
      ~~~(readCells [(2368, 0x02#8)] (.user 37))[x] ≠ 0#8) := by decide +kernel
theorem test_meets_pre_read_program :
    journalState { committing .preRead none with journals := { zero := .blank, one := .blank } } (journalFor 2) = .blank ∧
    overlay (line37 .committing).staged (readCells [] (.user 37)) ≠ readCells [] (.user 37) ∧
    (∀ x : Fin 64, (overlay (line37 .committing).staged (readCells [] (.user 37)))[x] &&&
      ~~~(readCells [] (.user 37))[x] = 0#8) := by decide +kernel

/-- PreReadDecides: the journal SPENT, and OPEN for another sector. -/
theorem test_meets_pre_read_journals :
    journalState { committing .preRead none with journals := { zero := .blank, one := .spent } } (journalFor 2) = .spent ∧
    journalState { committing .preRead none with journals := { zero := .blank, one := .openFor 3 } } (journalFor 2) =
      .openFor 3 ∧ (3 : SectorNo) ≠ 2 ∧ (committing .preRead none).lines[0].page = some 37 := by decide +kernel

/-- PreReadDecides, VerifyDecides, EraseLoopDecides, RewriteFailureQuarantinesTheSector: a THROUGH write waits on the head line. -/
theorem test_meets_wait_law (st : Stage) (lp : Option Loop) :
    ({ rewriting st lp with port := .commitWait (write2 0x940#18) .through 0 } : State).waitLaw := by
  intro t k i h
  have hi : i = 0 := by
    simp only [PortState.commitWait.injEq] at h
    exact h.2.2.symm
  subst hi
  exact Or.inr rfl
theorem test_wait_law_idle : ready.waitLaw := fun _ _ _ h => nomatch h

/-- VerifyDecides: SUCCESS, another pulse at PGM_MAX − 1, DISTURBED, EXHAUSTED at PGM_MAX. -/
theorem test_meets_verify :
    readCells [(2368, 0x12#8)] (.user 37) = erasedPage.set 0 0x12#8 ∧
    (readCells [] (.user 37) ≠ erasedPage.set 0 0x12#8 ∧
      (∀ x : Fin 64, (erasedPage.set 0 0x12#8)[x] &&& ~~~(readCells [] (.user 37))[x] = 0#8) ∧
      3 < ready.settings.pgmMax ∧ ready.settings.pgmMax ≤ 4) ∧
    (∃ x : Fin 64, (erasedPage.set 0 0x12#8)[x] &&& ~~~(readCells [(2368, 0x02#8)] (.user 37))[x] ≠ 0#8) := by decide +kernel

/-- EraseLoopDecides, RewriteFailureQuarantinesTheSector: BLANK; NOT_BLANK at ERS_MAX − 1 and at ERS_MAX; the last byte counts. -/
theorem test_meets_erase_loop :
    (∀ o, o < (Target.journal .j1).size → Memory.read [] ((Target.journal .j1).base + o) = 0xFF#8) ∧
    (1087 < (Target.journal .j1).size ∧ Memory.read [(264319, 0x7F#8)] ((Target.journal .j1).base + 1087) ≠ 0xFF#8) ∧
    5 < ready.settings.ersMax ∧ ready.settings.ersMax ≤ 6 ∧
    ((rewriting .journalCheck (some (.erase (.journal .j1) 6))).job.map fun j => (j.kind, j.stage, j.head, j.members)) =
      some (.rewrite, .journalCheck, some 0, []) ∧
    (rewriting .journalCheck none).lines[0].state = .committing ∧ (rewriting .journalCheck none).port = .idle := by
  decide +kernel

/-- EraseLoopDecides, RewriteFailureQuarantinesTheSector, RecoveryEndsLiftTheQuarantine: a target that is BLANK, and one that is not
when ERS_MAX pulses have gone. -/
theorem test_meets_blank_and_fails : ready.readsBlank (.user 2) ∧
    ({ ready with cells := [(264319, 0x7F#8)] } : State).eraseFails (.journal .j1) 6 ∧
    ({ ready with cells := [(2048, 0x7F#8)] } : State).eraseFails (.user 2) 6 := by
  unfold State.eraseFails State.readsBlank
  decide +kernel

/-- EraseLoopDecides, MergeAbsorbsTheSector, RewriteOpensTheJournalBeforeTheTarget, RecoveryEndsLiftTheQuarantine: a page left to
program, first and last in its place, and none left. -/
theorem test_meets_pages_left : isNextPage image37 0 5 ∧ isNextPage image37 5 5 ∧ noPageLeft image37 6 ∧
    noPageLeft erasedImage 0 ∧ isNextPage (image37.set 15 (erasedPage.set 63 0#8)) 6 15 ∧ noPageLeft image37 16 := by
  unfold isNextPage noPageLeft
  decide +kernel

/-- EraseLoopDecides: a SCRUB for each step that failed, the target erase and the fallback erase. -/
theorem test_meets_erase_stages :
    (∀ f : FailedStep, ({ freshJob .rewrite 2 .scrub with failedStep := some f } : Job).failedStep = some f) ∧
    ((rebuilt .targetErase (some (.erase (.user 2) 1)) (.blankCheck (.user 2)) (.openFor 2) []).job.map fun j =>
      (j.kind, j.stage, j.headerImage)) = some (.rewrite, .targetErase, some (headerImageOf 2 0#16)) ∧
    ((rewriting .closeErase (some (.erase (.journal .j1) 1))).job.map fun j => (j.kind, j.stage)) =
      some (.rewrite, .closeErase) ∧
    ((recovering .restore .targetErase (some (.erase (.user 2) 1))).job.map fun j => j.kind) = some .restore := by
  refine ⟨fun _ => rfl, ?_⟩
  decide +kernel

/-- MergeAbsorbsTheSector: a rewrite at the last page of LOAD, a SEALED line of the sector behind the head. -/
theorem test_meets_merge_of_sector :
    ((rewriting (.load 15) none).job.map fun j => (j.stage, j.loop, j.head, j.members)) = some (.load 15, none, some 0, []) ∧
    sectorOf 37 = 2 ∧
    ([1].filter fun k : LineNo => (({ rewriting (.load 15) none with
        lines := (withLine .committing).lines.set 1 (lineOf .sealed 1) } : State).lines[k]).page.any
          fun p => sectorOf p == 2) = [1] := by decide +kernel

/-- MergeAbsorbsTheSector: LOAD at its first page; a header image, its check low byte first. -/
theorem test_meets_load : (after (exec .readPageComplete (withOp (.readPage (.user 32))
    { rewriting (.load 0) none with buffer := .assembling 2 erasedImage }))).map (fun t => (t.op, t.job.map fun j => j.stage)) =
    some (some (.readPage (.user 33)), some (.load 1)) := by decide +kernel
theorem test_meets_header_image : isHeaderImage (headerImageOf 2 0x1234#16) 2 0x1234#16 ∧
    (headerImageOf 2 0x1234#16)[2] = 0x34#8 := by
  unfold isHeaderImage
  decide +kernel

/-- RewriteOpensTheJournalBeforeTheTarget: COPY and TARGET_PROGRAM of page 5, each with its page as the image. -/
theorem test_meets_copy_and_target :
    readCells [(263616, 0x12#8)] (copyPage .j1 5) = image37[5] ∧ readCells [(2368, 0x12#8)] (.user (sectorPage 2 5)) = image37[5] ∧
    ((rebuilt (.copy 5) (some (.program (copyPage .j1 5) image37[5] image37[5] 1)) (.readPage (copyPage .j1 5)) .spent
      [(263616, 0x12#8)]).job.map fun j => (j.kind, j.stage, j.copyCheck)) = some (.rewrite, .copy 5, some 0#16) ∧
    ((rebuilt (.targetProgram 5) (some (.program (.user 37) image37[5] image37[5] 1)) (.readPage (.user 37)) (.openFor 2)
      [(2368, 0x12#8)]).job.map fun j => j.stage) = some (.targetProgram 5) := by decide +kernel

/-- RewriteFailureQuarantinesTheSector, RecoveryEndsLiftTheQuarantine: a program loop that ends EXHAUSTED and one DISTURBED, on the
header, on a copy page and on a page of the target. -/
theorem test_meets_loop_fails : ready.loopFails (headerPage .j1) (erasedPage.set 5 0#8) 4 .exhausted ∧
    ({ ready with cells := [(263232, 0x00#8)] } : State).loopFails (headerPage .j1) erasedPage 1 .disturbed ∧
    ready.loopFails (copyPage .j1 5) image37[5] 4 .exhausted ∧
    ready.loopFails (.user (sectorPage 2 5)) image37[5] 4 .exhausted ∧ ¬ ready.loopFails (.user 37) image37[5] 3 .exhausted := by
  unfold State.loopFails
  decide +kernel

/-- RecoveryEndsLiftTheQuarantine: each kind in its close step, the mark standing and not; a copy load and a target step. -/
theorem test_meets_recovery_ends :
    (∀ k : JobKind, ((recovering k .close none).job.map fun j => (j.kind, j.stage, j.loop)) = some (k, .close, none)) ∧
    (readCells [(263237, 0x00#8)] (headerPage .j1))[5] = 0x00#8 ∧ (readCells [] (headerPage .j1))[5] ≠ 0x00#8 ∧
    ((recovering .replay (.loadCopy 15) none).job.map fun j => (j.stage, j.loop)) = some (.loadCopy 15, none) ∧
    ((recovering .restore (.targetProgram 5) none).job.map fun j => j.stage) = some (.targetProgram 5) := by
  refine ⟨fun _ => rfl, ?_⟩
  decide +kernel
theorem test_meets_replay_end : (scanning (.replay .j0) none).scan = .replay .j0 ∧
    ({ scanning (.replay .j0) none with journals := { zero := .spent, one := .openFor 2 } } : State).journals.one = .openFor 2 ∧
    (∀ sec, State.reset.journals.one ≠ .openFor sec) := ⟨rfl, rfl, fun _ h => nomatch h⟩

/-- RewriteOpensTheJournalBeforeTheTarget, RecoveryEndsLiftTheQuarantine: the header of J1 reads the image of the loop. -/
theorem test_meets_header_verified :
    journalFor 2 = .j1 ∧ readCells [] (headerPage .j1) = erasedPage ∧
    ((rewriting .header (some (.program (headerPage .j1) erasedPage erasedPage 1))).job.map fun j => (j.kind, j.stage)) =
      some (.rewrite, .header) ∧
    ((recovering .restore .close (some (.program (headerPage .j1) erasedPage erasedPage 1))).job.map fun j => (j.kind, j.stage)) =
      some (.restore, .close) ∧ journalFor 128 = .j0 := by decide +kernel

/-- JobChoiceStartsTheJobs: a pending RESTORE with either ground, a pending CLOSE, a queue head; the scan's replay step. -/
theorem test_meets_job_choice :
    nextJob (quarantined .copy .restore) = some (.restore .bank0 2) ∧
    nextJob (quarantined .cells .restore) = some (.restore .bank0 2) ∧
    nextJob (quarantined .copy .close) = some (.close .bank0 2) ∧ nextJob (withLine .sealed) = some (.commit 0 37) ∧
    (withLine .sealed).commitQueue = 0 :: [] ∧
    (scanning (.replay .j1) none).job = none ∧
    journalState { scanning (.replay .j1) none with journals := { zero := .blank, one := .openFor 2 } } .j1 = .openFor 2 := by
  decide +kernel

/-- ScanClassifiesTheJournals: a blank journal, one with contents, and headers of each class at the bounds of the target field. -/
theorem test_meets_scan :
    (∀ o, o < 1088 → Memory.read [] (journalBase .j0 + o) = 0xFF#8) ∧
    Memory.read [(263231, 0x00#8)] (journalBase .j0 + 1087) ≠ 0xFF#8 ∧ journalBase .j0 + 1088 = journalBase .j1 ∧
    (headerImageOf 2 0#16)[4] = 0xFF#8 ∧ (withRestoreDone (withCopyDone (headerImageOf 2 0#16)))[5] ≠ 0xFF#8 ∧
    headerSector .j1 (withCopyDone (headerImageOf 2 0#16)) = some 2 ∧
    headerSector .j0 (withCopyDone (headerImageOf 2 0#16)) = none ∧
    headerSector .j1 (withCopyDone (headerImageOf 127 0#16)) = some 127 ∧
    headerSector .j1 (withCopyDone (headerImageOf 128 0#16)) = none ∧
    headerSector .j0 (withCopyDone (headerImageOf 255 0#16)) = some 255 ∧ headerSector .j0 erasedPage = none := by
  decide +kernel

/-- ScanClassifiesTheJournals: a copy read in the middle, and the last with the check met and not; the end of J1's classification. -/
theorem test_meets_scan_copy :
    (after (exec .readPageComplete (scanning (.copyRead .j1 2 0#16 0 0#16) (some (.readPage (copyPage .j1 0)))))).map
      (fun t => t.scan) = some (.copyRead .j1 2 0#16 1 16320#16) ∧
    0#16 + pageSum (readCells [] (copyPage .j1 15)) = 16320#16 ∧ journalFor 2 = .j1 := by decide +kernel
theorem test_meets_scan_end : (after (exec .readPageComplete
    (scanning (.copyRead .j1 2 16320#16 15 0#16) (some (.readPage (copyPage .j1 15)))))).map (fun t => (t.scan, t.journals.one)) =
      some (.replay .j1, .openFor 2) ∧
    (after (exec .readPageComplete
      (scanning (.copyRead .j1 2 0#16 15 0#16) (some (.readPage (copyPage .j1 15)))))).map (fun t => (t.frontEnd, t.journals.one)) =
      some (.ready, .spent) ∧
    (∀ (src : Journal) (sec : SectorNo), journalState State.reset src ≠ .openFor sec) :=
  ⟨by decide +kernel, by decide +kernel, fun src _ => by cases src <;> exact fun h => nomatch h⟩

/-- The last job of a drain ends with a FLUSH deferred, the transmitter as given. -/
def lastOfDrain (tr : Transmitter) : State :=
  { sending tr none with
    frontEnd := .draining, unit := { request := none, deferred := some 9#8, resetDue := false } }
/-- FlushAnswerFollowsTheLastJob: DRAINED and the deferred answer in one step, at once or behind the sync answer. -/
theorem test_flush_in_the_drain :
    (let t := endJob (lastOfDrain .resting); (t.frontEnd, t.unit.deferred, t.link.transmitter)) =
      (.drained, none, .response [0x00#8, 9#8, 0x00#8, 1#8, 0x00#8, 0xF6#8] false) ∧
    (let t := endJob (lastOfDrain (.syncAnswer none)); (t.frontEnd, t.link.transmitter)) =
      (.drained, .syncAnswer (some { status := .ok, tag := 9#8, data := [0x00#8], resets := false })) := by decide +kernel

/-- FlushAnswerFollowsTheLastJob: a deferred response on a BUSY link with nothing queued; and with a line queued. -/
theorem test_meets_flush_answer :
    (let s := { linked ready with link := { Link.afterReset with state := .busy, bitTime := some 1 },
                                  unit := { request := none, deferred := some 9#8, resetDue := false } }
     s.unit.deferred = some 9#8 ∧ s.link.transmitter = .resting ∧ s.link.state = .busy ∧ s.commitQueue = []) ∧
    (withLine .sealed).commitQueue ≠ [] := by decide +kernel

/-- SyncByteSetsTheRate: a byte accepted at each bound of its time and refused one past it. -/
theorem test_meets_sync : seeksSync ready = true ∧ acceptsCandidate 8000 0x55#8 true = true ∧
    acceptsCandidate 832000 0x55#8 true = true ∧ acceptsCandidate 7999 0x55#8 true = false ∧
    acceptsCandidate 832001 0x55#8 true = false ∧ seeksSync (linked ready) = false ∧
    (sending (.syncAnswer (some (plainResponse .ok 1#8))) none).link.transmitter = .syncAnswer (some (plainResponse .ok 1#8)) ∧
    ({ linked ready with link := { (linked ready).link with transmitter := .syncAnswer none } } : State).link.transmitter =
      .syncAnswer none ∧
    (after (exec .syncAnswerSent (answeringBehind 1#8))).map (fun t => (t.link.transmitter, t.link.completing)) =
      some (.resting, none) := by decide +kernel

/-- BytesJoinTheFrame, LinkFaultsAreRecovered, OverrunAndHandOver: a receiver that receives, and one that does not. -/
theorem test_meets_receiver : receives (linked ready) = true ∧ receives ready = false ∧
    receives { linked ready with link := { (linked ready).link with quietWait := true } } = false ∧
    ([0#8] : List Byte).length < (2#8 : Byte).toNat ∧ ([0#8, 0#8] : List Byte).length = (2#8 : Byte).toNat := by decide +kernel

/-- BytesJoinTheFrame, OverrunAndHandOver: a receiver with a frame in progress takes bytes. -/
theorem test_meets_link_receives (st : LinkState) (f : FrameInProgress) (h : st ≠ .syncWait) : (framed st f).linkReceives :=
  ⟨(fun h' => nomatch h'), h, rfl⟩
theorem test_link_receives_not : ¬ ready.linkReceives := fun h => absurd h.2.1 (by decide +kernel)

/-- BytesJoinTheFrame: the last byte of a frame in RECEIVING, executed, and held where a break comes next; in BUSY, buffered; a LEN of
13 in BUSY. -/
theorem test_byte_completes :
    (after (exec (.byteReceived 0xF8#8) (framed .receiving (.keeping [0x01#8, 0x07#8, 0x00#8])))).map (fun t =>
      (t.link.state, t.unit.request, t.link.transmitter.quiet)) = some (.busy, none, false) ∧
    (after (exec (.byteReceived 0xF8#8)
      { framed .receiving (.keeping [0x01#8, 0x07#8, 0x00#8]) with pending := [.breakRecognised] })).map (fun t =>
      (t.link.state, t.unit.request, t.link.frame)) = some (.busy, some identFrame, none) ∧
    (after (exec (.byteReceived 0xF8#8) (framed .busy (.keeping [0x01#8, 0x07#8, 0x00#8])))).map (fun t =>
      (t.link.state, t.link.buffered)) = some (.busy, some identFrame) ∧
    (after (exec (.byteReceived 13#8) (framed .busy (.keeping [0x01#8, 0x07#8])))).map (fun t =>
      (t.link.quietWait, t.link.buffered)) = some (true, some (.lengthFault 0x01#8 0x07#8 13#8)) := by decide +kernel

/-- BytesJoinTheFrame: an overrun frame is counted to its end, and ends at a LEN of 13. -/
theorem test_overrun_counted :
    (after (exec (.byteReceived 1#8) (framed .receiving (.overrun 2 none)))).map (fun t => t.link.frame) =
      some (some (.overrun 3 (some 1#8))) ∧
    (after (exec (.byteReceived 9#8) (framed .receiving (.overrun 4 (some 1#8))))).map (fun t =>
      (t.link.frame, t.link.state)) = some (none, .idle) ∧
    (after (exec (.byteReceived 13#8) (framed .busy (.overrun 2 none)))).map (fun t =>
      (t.link.frame, t.link.state, t.link.quietWait)) = some (none, .busy, true) := by decide +kernel

/-- The sync byte falls five times, the fifth fall eight bit times after the first (R162). -/
theorem test_sync_byte_on_the_wire : wireBits 0x55#8 =
    [false, true, false, true, false, true, false, true, false, true] ∧ fallsOf (wireBits 0x55#8) = [0, 2, 4, 6, 8] ∧
    receivedByte [false, true, false, false, false, false, false, false, false, true] = some 0x01#8 ∧
    receivedByte [false, true, false, false, false, false, false, false, false, false] = none := by decide +kernel

/-- LinkFaultsAreRecovered: a break with a response of RESET_PART being sent, with a sync answer alone, in SYNC_WAIT, and with a request
held. -/
theorem test_break_while_sending :
    (after (exec .breakRecognised (sending (.response [1#8, 2#8] true) (some identFrame)))).map (fun t =>
      (t.link.state, t.link.buffered, t.link.transmitter, t.unit.resetDue)) = some (.syncWait, none, .resting, true) ∧
    (after (exec .breakRecognised { linked ready with link := { (linked ready).link with transmitter := .syncAnswer none } })).map
      (fun t => t.link.transmitter) = some (.syncAnswer none) ∧
    (ready.link.state = .syncWait ∧ ready.unit.request = none ∧ ready.frontEnd ≠ .inReset) := by decide +kernel
theorem test_break_on_a_waiting_answer (b : Byte) : (after (exec .breakRecognised (answeringBehind b))).map (fun t =>
    (t.link.transmitter, t.link.completing)) = some (.resting, some b) ∧ bytesOnStx (answeringBehind b).link = [b, 0x55#8] :=
  ⟨rfl, rfl⟩
theorem test_break_with_request : (holding true).unit.request = some identFrame ∧ (holding true).link.overrunFlag = true ∧
    ({ holding true with pending := [.breakRecognised] } : State).linkLaw := by
  refine ⟨rfl, rfl, ?_⟩
  unfold State.linkLaw
  decide +kernel

/-- LinkFaultsAreRecovered: RESET_PART's frame sums to 0. -/
theorem test_meets_reset_part_frame : (0x7F#8 + 0x01#8 + 0#8 + 0x80#8 : Byte) = 0#8 := by decide +kernel

/-- OverrunAndHandOver: the end of a byte that a break let complete, with the transmitter resting and with a sync answer waiting. -/
theorem test_byte_completed (b : Byte) :
    (after (exec .responseSent (answeringBehind b))).map (fun t => (t.link.transmitter, t.link.completing)) =
      some (.syncAnswer none, none) ∧
    (after (exec .responseSent { ready with link := { ready.link with completing := some b } })).map (fun t => bytesOnStx t.link) =
      some [] := ⟨rfl, rfl⟩

/-- OverrunAndHandOver: the first start bit of a frame, with and without a buffered frame; and the hand-over of the buffered frame. -/
theorem test_start_bit :
    (after (exec .overrun (linked ready))).map (fun t => (t.link.state, t.link.frame)) =
      some (.receiving, some (.keeping [])) ∧
    (after (exec .overrun (sending (.response [1#8] false) (some identFrame)))).map (fun t =>
      (t.link.frame, t.link.overrunFlag)) = some (some (.overrun 0 none), true) := by decide +kernel
theorem test_hand_over :
    (after (exec .responseSent (sending (.response [1#8] false) (some identFrame)))).map (fun t =>
      (t.link.state, t.link.buffered, t.link.transmitter.quiet)) = some (.busy, none, false) ∧
    (after (exec .responseSent { sending (.response [1#8] false) (some identFrame) with pending := [.breakRecognised] })).map
      (fun t => (t.link.state, t.unit.request, t.link.transmitter)) = some (.busy, some identFrame, .resting) := by decide +kernel

/-- FaultyFramesAreAnswered: LEN 13; an unknown CMD; a wrong sum; a right sum with a wrong LEN. -/
theorem test_meets_faulty_frames : 12 < (13#8 : Byte).toNat ∧ WellFormed (.badCommand 0x55#8 1#8 []) = true ∧
    (0x01#8 + 0x07#8 + 0#8 + ([] : List Byte).foldl (· + ·) 0#8 + 0#8 : Byte) ≠ 0#8 ∧
    (0x01#8 + 0x07#8 + 1#8 + [0#8].foldl (· + ·) 0#8 + 0xF7#8 : Byte) = 0#8 ∧ requestLength 0x01#8 = some 0 := by decide +kernel

/-- SetRegionReplacesOrRefuses: the fullest entry, and each check at its first failing value. -/
theorem test_meets_set_region :
    regionOfRecord 1#8 0#16 4095#16 3#8 15#8 =
      some { valid := true, base := 0, limit := 4095, kind := .noAccess, delay := some 15 } ∧
    regionOfRecord 2#8 0#16 4095#16 3#8 15#8 = none ∧ regionOfRecord 1#8 0#16 4096#16 3#8 15#8 = none ∧
    regionOfRecord 1#8 5#16 4#16 3#8 15#8 = none ∧ regionOfRecord 1#8 0#16 4095#16 4#8 15#8 = none ∧
    regionOfRecord 1#8 0#16 4095#16 3#8 16#8 = none := by decide +kernel

/-- SetSettingReplacesOrRefuses: each field at its bounds and one past them. -/
theorem test_meets_set_setting :
    (([(0, 1, 255), (1, 1, 15), (2, 5, 80), (3, 1, 8), (4, 1, 16), (5, 1, 15), (6, 1, 255), (7, 0, 3)] :
        List (Nat × Nat × Nat)).all fun f =>
      (withSetting .afterReset (BitVec.ofNat 8 f.1) (BitVec.ofNat 8 f.2.1)).isSome &&
      (withSetting .afterReset (BitVec.ofNat 8 f.1) (BitVec.ofNat 8 f.2.2)).isSome &&
      (f.2.1 == 0 || (withSetting .afterReset (BitVec.ofNat 8 f.1) (BitVec.ofNat 8 (f.2.1 - 1))).isNone) &&
      (f.2.2 == 255 || (withSetting .afterReset (BitVec.ofNat 8 f.1) (BitVec.ofNat 8 (f.2.2 + 1))).isNone)) = true ∧
    withSetting .afterReset 8#8 1#8 = none := by decide +kernel

/-- FlushSealsAndAnswers: wait 0, 1 and 2; nothing left to wait for, and a line left. -/
theorem test_meets_flush : (chooseJob (linked ready)).commitQueue = [] ∧ (chooseJob (linked ready)).job = none ∧
    (chooseJob (linked (withLine .sealed))).job.isSome = true ∧ (linked ready).frontEnd ≠ .starting ∧
    2 ≤ (2#8 : Byte).toNat ∧ (1#8 : Byte).toNat ≤ 1 := by decide +kernel

/-- ReadFaultReturnsTheOldestEntry, AckFaultRemovesTheNamedEntry: a log of one entry, an empty log, another number. -/
theorem test_meets_faults : oneFault.entries = { seq := 0xFFFF#16, kind := .replayed 2 } :: [] ∧ ready.log.entries = [] ∧
    (0xFFFF#16 : BitVec 16) ≠ 0#16 := by decide +kernel

/-- ReadingCommandsReturnWhatStands: each code at a state that has it. -/
theorem test_meets_status : ready.frontEnd = .ready ∧ ready.job.map Job.kind = none ∧ ready.resetCause = .powerOn ∧
    (committing .preRead none).job.map Job.kind = some .commit ∧ (rewriting .scrub none).job.map Job.kind = some .rewrite ∧
    (ready.quarantine.get .bank1).sector = none ∧ (ready.quarantine.get .bank1).pending = .none ∧
    ((quarantined .copy .restore).quarantine.get .bank0).sector = some 2 ∧
    (((quarantined .copy .restore).quarantine.get .bank0).pending, 0x81#8) ∈
      [(PendingJob.none, (0x80#8 : Byte)), (.restore, 0x81#8), (.close, 0x82#8)] ∧
    (ready.settings.defaultKind, 0#8) ∈
      [(AccessKind.buffered, (0#8 : Byte)), (.through, 1#8), (.readOnly, 2#8), (.noAccess, 3#8)] := by decide +kernel

/-- ReadFaultReturnsTheOldestEntry: the record of each kind of entry, at the bounds of its fields. -/
theorem test_fault_records :
    ([.refused 0x3FFFF#18 .write .starting, .programFail 4095 .disturbed 8 7, .journalFail .j1 .close 255 0,
      .journalHeld 4095 .j0 8, .quarantined 255 .program 15, .replayed 255, .restored 0, .restoreFail 1,
      .journalCorrupt .j1 0xFFFE#16] : List FaultKind).map (fun k => faultRecord { seq := 0xFF01#16, kind := k }) =
    [[0x01#8, 0xFF#8, 1#8, 0xFF#8, 0xFF#8, 0x03#8, 1#8, 7#8], [0x01#8, 0xFF#8, 2#8, 0xFF#8, 0x0F#8, 1#8, 8#8, 7#8],
     [0x01#8, 0xFF#8, 3#8, 1#8, 4#8, 0xFF#8, 0#8, 0#8], [0x01#8, 0xFF#8, 4#8, 0xFF#8, 0x0F#8, 0#8, 8#8, 0#8],
     [0x01#8, 0xFF#8, 5#8, 0xFF#8, 5#8, 15#8, 0#8, 0#8], [0x01#8, 0xFF#8, 6#8, 0xFF#8, 0#8, 0#8, 0#8, 0#8],
     [0x01#8, 0xFF#8, 7#8, 0#8, 0#8, 0#8, 0#8, 0#8], [0x01#8, 0xFF#8, 8#8, 1#8, 0#8, 0#8, 0#8, 0#8],
     [0x01#8, 0xFF#8, 9#8, 1#8, 0xFE#8, 0xFF#8, 0#8, 0#8]] := by decide +kernel

/-- RetryAndDiscardActOnFailedLines: a discard with a write held for a line lets it in. -/
theorem test_discard_lets_in : (after (exec (.discardPage 1#8 37#16)
    { linked (withLine .failed) with port := .held (write2 0x940#18) .buffered .line 9 })).map (fun t =>
      (t.lines[0].state, t.lines[0].staged[1], t.portAnswer)) = some (.open, some 0x12#8, some (.okay [])) := by decide +kernel

/-- RetryAndDiscardActOnFailedLines: a page above 4095, the last page, a blocked page in READY, a page without FAILED lines. -/
theorem test_meets_retry : 4096 ≤ (4096#16 : BitVec 16).toNat ∧ (4095 : PageNo).val = (4095#16 : BitVec 16).toNat ∧
    (∃ i : LineNo, (linked (withLine .failed)).lines[i].state = .failed ∧
      (linked (withLine .failed)).lines[i].page = some 37) ∧
    ((linked (withLine .failed)).quarantine.get (bankOf (sectorOf 37))).sector ≠ some (sectorOf 37) ∧
    (linked (withLine .failed)).holdsForLine = false ∧
    (∀ i : LineNo, ready.lines[i].state = .failed → ready.lines[i].page ≠ some 37) := by decide +kernel

/-- RecoveryRequestsAndResetPart: a record that names no sector, one with nothing pending, one with a job pending. -/
theorem test_meets_recovery : (ready.quarantine.get .bank0).sector = none ∧
    ((quarantined .copy .none).quarantine.get .bank0).sector.isSome = true ∧
    ((quarantined .copy .none).quarantine.get .bank0).pending = .none ∧
    ((quarantined .copy .close).quarantine.get .bank0).pending ≠ .none := by decide +kernel

/-- READY with two entries that cover page 37, the lower of them with an override. -/
def withRegions : State :=
  let low : Region := { valid := true, base := 37, limit := 37, kind := .through, delay := some 1 }
  let high : Region := { valid := true, base := 0, limit := 4095, kind := .readOnly, delay := none }
  { ready with regions := (ready.regions.set 2 low).set 5 high }
/-- LowestCoveringRegionDecides: two entries that cover a page, the lower with an override; no entry that covers it. -/
theorem test_meets_region :
    (kindOf withRegions 37 = .through ∧ delayOf withRegions 37 = 1 ∧ kindOf withRegions 38 = .readOnly ∧
      delayOf withRegions 38 = 4) ∧ kindOf ready 37 = .buffered := by decide +kernel

/-- AcceptedWriteIsReadBack: the pages law, and an accepted write. -/
theorem test_meets_read_back : (after (exec (.portTransaction (write2 0x940#18)) ready)).map (fun t => t.portAnswer) =
    some (some (.okay [])) := by decide +kernel
theorem test_pages_law : ready.pagesLaw :=
  ⟨by decide +kernel, by decide +kernel, (fun _ _ _ h => by simp [ready, State.reset] at h),
   fun _ _ _ h => by simp [ready, State.reset] at h⟩

/-- OtherCommandsKeepReads: a command of the list in a state without a LOADED buffer. -/
theorem test_meets_keeps_reads : keepsReads .ageTimerExpiry = true ∧ keepsReads (.discardPage 0#8 0#16) = false := by
  decide +kernel
theorem test_meets_buffer : ∀ sec img, ready.job = none → ready.buffer ≠ .loaded sec img := fun _ _ _ h => nomatch h

/-- The age list of one line has nothing before or behind it. -/
theorem test_alone {older newer : List LineNo} {l : LineNo} (h : [0] = older ++ l :: newer) : older = [] ∧ l = 0 ∧ newer = [] := by
  cases older with
  | nil => simpa [eq_comm] using h
  | cons _ _ => simp at h

/-- OtherCommandsKeepReads: a COMMIT at its pre-read and at its verify; the laws of the states of a rewrite below. -/
theorem test_meets_commit_handover :
    (committing .preRead none).buffer = .empty ∧ (committing .preRead none).groundIsCells 2 ∧
    (committing .preRead none).holdsForLine = false ∧ (committing .preRead none).lines[0].page = some 37 ∧
    (∀ older newer : List LineNo, (committing .preRead none).ageList = older ++ 0 :: newer →
      ∀ k ∈ older, (committing .preRead none).lines[k].page ≠ some 37) ∧
    (committing .preRead none).recordsLaw := by
  refine ⟨rfl, Or.inl fun j => ?_, rfl, rfl, fun older newer h k hk => ?_, ?_, ?_, fun _ _ _ _ _ h => nomatch h⟩
  · cases j <;> exact fun h => nomatch h
  · rw [(test_alone h).1] at hk
    cases hk
  · intro b sec h
    cases b <;> cases h
  · intro j sec h
    cases j <;> cases h

/-- OtherCommandsKeepReads: the laws of a rewrite of sector 2 whose journal is OPEN for it. -/
theorem test_meets_rewrite_laws (st : Stage) (lp : Option Loop) (o : CellOp) (cells : Memory) :
    (rebuilt st lp o (.openFor 2) cells).linesLaw ∧ (rebuilt st lp o (.openFor 2) cells).recordsLaw := by
  have hl : (committing .preRead none).linesLaw :=
    ⟨by decide +kernel, by decide +kernel, by decide +kernel⟩
  refine ⟨hl, ?_, ?_, fun _ _ _ _ _ h => nomatch h⟩
  · intro b sec h
    cases b <;> cases h
  · intro j sec h
    cases j <;> cases h
    decide +kernel

/-- OtherCommandsKeepReads: MERGE and COPY_DONE, the journal OPEN for no sector. -/
theorem test_meets_merge_handover :
    (∀ k : Fin 16, k < 15 → erasedImage[k] = readCells [] (.user (sectorPage 2 k))) ∧
    (∀ r, journalState (rewriting (.load 15) none) (journalFor 2) ≠ .openFor r) ∧
    (∀ q ∈ (rewriting (.load 15) none).lines[0].page, sectorOf q = 2) :=
  ⟨by decide +kernel, (fun r h => nomatch h), fun q h => by
    rw [show (rewriting (.load 15) none).lines[0].page = some 37 from rfl] at h
    cases h
    decide +kernel⟩

/-- OtherCommandsKeepReads: RETIRE: the copy and the buffer hold what the head line holds; CLOSE: the cells do. -/
theorem test_meets_retire_handover :
    let s := rebuilt (.targetProgram 15) none (.readPage (.user 47)) (.openFor 2) [(263616, 0x12#8)]
    (∀ (k : Fin 16) (x : Fin 64), Memory.read s.cells (journalBase .j1 + 64 * (k.val + 1) + x.val) = image37[k][x]) ∧
    ∀ (older newer : List LineNo) (l : LineNo), s.ageList = older ++ l :: newer → s.lines[l].page = some 37 ∧ older = [] ∧
      ∀ (x : Fin 64) (b : Byte), s.lines[l].staged[x] = some b → image37[pageInSector 37][x] = b := by
  refine ⟨by decide +kernel, fun older newer l h => ?_⟩
  obtain ⟨h1, h2, _⟩ := test_alone h
  subst h2
  refine ⟨rfl, h1, ?_⟩
  have hb : ∀ x : Fin 64, ((line37 .committing).staged[x]).all (fun b => image37[pageInSector 37][x] == b) = true := by
    decide +kernel
  intro x b hx
  have hv := hb x
  rw [show (line37 .committing).staged[x] = some b from hx] at hv
  simpa using hv
theorem test_meets_close_handover : ∀ (k : Fin 16) (x : Fin 64),
    Memory.read [(2368, 0x12#8)] (64 * (16 * (2 : SectorNo).val + k.val) + x.val) = image37[k][x] := by decide +kernel

/-- OtherCommandsKeepReads: a rewrite's journal check, a LOAD read, and SCRUB. -/
theorem test_meets_load_handover :
    ({ rewriting .journalCheck (some (.erase (.journal .j1) 0)) with
        op := some (.blankCheck (.journal .j1)) } : State).loadHandsOver .blankCheckComplete
      ((rewriting .journalCheck (some (.erase (.journal .j1) 0))).job.getD (freshJob .rewrite 2 .header)) :=
  Or.inl ⟨0, rfl, rfl, rfl, rfl, rfl, fun _ h => nomatch h⟩
theorem test_meets_load_read :
    ({ rewriting (.load 3) none with op := some (.readPage (.user 35)), buffer := .assembling 2 erasedImage } : State).loadHandsOver
      .readPageComplete ((rewriting (.load 3) none).job.getD (freshJob .rewrite 2 .header)) :=
  Or.inr ⟨3, erasedImage, by decide, rfl, rfl, rfl, rfl, rfl⟩
theorem test_meets_copy_handover :
    let s := rebuilt .scrub (some (.erase (.journal .j1) 1)) (.blankCheck (.journal .j1)) .spent [(2368, 0x12#8)]
    s.copyHandsOver .blankCheckComplete (s.job.getD (freshJob .rewrite 2 .header)) := by
  have hr : ∀ (k : Fin 16) (x : Fin 64), image37[k][x] =
      Memory.read [(2368, 0x12#8)] (64 * (16 * (2 : SectorNo).val + k.val) + x.val) := by decide +kernel
  exact ⟨image37, rfl, Or.inl fun j => by cases j <;> exact fun h => (nomatch h), fun _ h => (nomatch h),
    fun k x _ => hr k x, Or.inr (Or.inr ⟨1, rfl, rfl, rfl, rfl⟩)⟩

/-- OtherCommandsKeepReads: a read of RESTORE's copy load, its target erase, and its close step before the first pulse. -/
theorem test_meets_restore_handover :
    ({ recovering .restore (.loadCopy 0) none with
        op := some (.readPage (copyPage .j1 0)), buffer := .assembling 2 erasedImage } : State).copyLoadHandsOver
      .readPageComplete (freshJob .restore 2 (.loadCopy 0)) := by
  refine ⟨0, erasedImage, rfl, rfl, rfl, rfl, rfl, fun m h => absurd h (by simp), rfl, ?_⟩
  rintro (h | ⟨_, h⟩)
  · exact h .j1 rfl
  · exact nomatch h
theorem test_meets_restore_target (j : Job) (hj : j = { freshJob .restore 2 .targetErase with loop := some (.erase (.user 2) 1) }) :
    ({ recovering .restore .targetErase none with
        op := some (.blankCheck (.user 2)), buffer := .loaded 2 erasedImage, job := some j } : State).targetHandsOver
      .blankCheckComplete j := by
  have hr : ∀ (k : Fin 16) (x : Fin 64),
      Memory.read [] (journalBase .j1 + 64 * (k.val + 1) + x.val) = erasedImage[k][x] := by decide +kernel
  subst hj
  exact ⟨erasedImage, rfl, rfl, Or.inr ⟨1, rfl, rfl, rfl, rfl⟩, hr, Or.inl rfl⟩
theorem test_meets_restore_close :
    ({ recovering .restore .close none with
        op := some (.readPage (headerPage .j1)), buffer := .loaded 2 erasedImage } : State).closeHandsOver
      .readPageComplete (freshJob .restore 2 .close) := by
  have hr : ∀ (k : Fin 16) (x : Fin 64),
      Memory.read [] (64 * (16 * (2 : SectorNo).val + k.val) + x.val) = erasedImage[k][x] := by decide +kernel
  exact ⟨erasedImage, rfl, rfl, Or.inr rfl, Or.inr (Or.inl ⟨rfl, rfl, rfl, rfl, rfl⟩), hr⟩

/-- OtherCommandsKeepReads: a pulse under a filled line, under the buffer, on a header, and in a journal that no read takes. -/
theorem test_meets_covered_pulse :
    ({ withLine .committing with
        lines := (withLine .committing).lines.set 0 { line37 .committing with staged := filledWith erasedPage },
        op := some (.programPulse (.user 37) erasedPage (.pulse 20)) } : State).pulseIsCovered ∧
    (rebuilt .targetErase none (.erasePulse (.user 2) (.pulse 1000)) (.openFor 2) []).pulseIsCovered ∧
    (rebuilt .close none (.programPulse (headerPage .j1) erasedPage (.pulse 20)) (.openFor 2) []).pulseIsCovered ∧
    (rebuilt .scrub none (.erasePulse (.journal .j1) (.pulse 1000)) .spent []).pulseIsCovered := by
  refine ⟨Or.inl ⟨0, 37, erasedPage, 20, rfl, by decide +kernel, rfl, ?_⟩,
    Or.inr (Or.inl ⟨2, image37, rfl, Or.inr ⟨1000, rfl⟩⟩), Or.inr (Or.inr (Or.inl ⟨.j1, erasedPage, 20, rfl⟩)),
    Or.inr (Or.inr (Or.inr ⟨.j1, Or.inr ⟨1000, rfl⟩, fun _ h => nomatch h⟩))⟩
  unfold fillsPage
  decide +kernel

/-- StepKeepsCellsCanonical is met by `test_cells_canonical`. StepKeepsTheLogLaw: a log of one entry, the number about to wrap. -/
theorem test_meets_log_law : ({ ready with log := oneFault } : State).logLaw := by
  refine ⟨by decide +kernel, by decide +kernel, fun k => ?_⟩
  rcases k with ⟨_ | k, hk⟩
  · simp [oneFault]
  · simp [oneFault]

/-- StepKeepsTablesAndAges, StepKeepsLinesJobAndPages: an OPEN line. -/
theorem test_meets_tables_ages : (withLine .open).settings.inRange ∧ (withLine .open).agesLaw := by
  constructor
  · unfold Settings.inRange; decide +kernel
  · unfold State.agesLaw; decide +kernel
theorem test_meets_regions : ∀ n : Fin 8, (withRegions.regions[n]).base ≤ (withRegions.regions[n]).limit := by decide +kernel
theorem test_meets_job_law : ∀ i : LineNo, (withLine .open).lines[i].state ≠ .committing := by decide +kernel
theorem test_meets_pages_law : (withLine .open).pagesLaw := by
  refine ⟨by decide +kernel, by decide +kernel, fun _ _ _ h => by simp [withLine, ready, State.reset] at h, ?_⟩
  intro i older newer h _
  have hl : (older ++ i :: newer).length = 1 := by rw [← h]; rfl
  have hn : newer = [] := by
    cases newer with
    | nil => rfl
    | cons _ _ => simp at hl; omega
  simp [hn]

/-- StepKeepsTheFrontEndLaw, StepKeepsTheChoiceLaw: READY with an OPEN line, nothing queued; STARTING with every line FREE. -/
theorem test_meets_front_end_law : (withLine .open).frontEndLaw := by
  refine ⟨fun h => ?_, fun h => ?_, fun h => ?_⟩ <;> simp [withLine, ready, State.reset] at h
theorem test_meets_choice_law : (withLine .open).choiceLaw := by
  refine ⟨fun _ => Or.inr (by decide +kernel), fun b h => ?_⟩
  cases b <;> exact absurd rfl h

/-- StepKeepsTheRecordsLaw: sector 2 quarantined, J1 OPEN for it. -/
theorem test_meets_records_law : (quarantined .copy .none).recordsLaw := by
  refine ⟨fun b sec h => ?_, fun j sec h => ?_, fun _ _ _ _ _ h => by simp [quarantined, ready, State.reset] at h⟩
  · cases b
    · have hs : (2 : SectorNo) = sec := by simpa [quarantined, PerBank.get] using h
      subst hs; rfl
    · simp [quarantined, PerBank.get, QuarantineRecord.afterReset] at h
  · cases j
    · simp [quarantined, journalState, journalBank, PerBank.get] at h
    · have hs : (2 : SectorNo) = sec := by simpa [quarantined, journalState, journalBank, PerBank.get] using h
      subst hs; rfl

/-- StepKeepsTheLinkLaw: a ready link. -/
theorem test_meets_link_law : (linked ready).linkLaw := by unfold State.linkLaw; decide +kernel

end Sys2Proof.Tests
end

section
/-! PROOF. What a step can be, and what the operations that have no frame law of their own leave unchanged. -/

namespace Sys2Proof.Machine

set_option Elab.async false

/-- What a step can be: the idle step on an empty queue, or the command at the front of the queue on the rest of it. -/
theorem step_cases {s t : State} (h : step s = .next t) :
    (s.pending = [] ∧ t = takeNextTransaction s) ∨
      ∃ c rest, s.pending = c :: rest ∧ exec c { s with pending := rest } = .next t := by
  unfold step at h
  cases hp : s.pending with
  | nil =>
    rw [hp] at h
    exact Or.inl ⟨rfl, (Host.Outcome.next.inj h).symm⟩
  | cons c rest =>
    rw [hp] at h
    exact Or.inr ⟨c, rest, rfl, h⟩

@[simp] theorem enterStarting_frame (s : State) :
    (enterStarting s).cells = s.cells ∧ (enterStarting s).journals = s.journals ∧
    (enterStarting s).quarantine = s.quarantine ∧ (enterStarting s).scan = .blankCheck .j0 := by
  simp [enterStarting]

@[simp] theorem releaseReset_frame (s : State) :
    (releaseReset s).cells = s.cells ∧ (releaseReset s).journals = s.journals ∧
    (releaseReset s).quarantine = s.quarantine := by
  unfold releaseReset
  split <;> simp

@[simp] theorem pwarnRises_frame (s : State) :
    (pwarnRises s).cells = s.cells ∧ (pwarnRises s).journals = s.journals ∧
    (pwarnRises s).quarantine = s.quarantine ∧ (pwarnRises s).scan = s.scan := by
  unfold pwarnRises
  split <;> simp

@[simp] theorem pwarnFalls_frame (s : State) :
    (pwarnFalls s).cells = s.cells ∧ (pwarnFalls s).journals = s.journals ∧
    (pwarnFalls s).quarantine = s.quarantine ∧ (pwarnFalls s).scan = s.scan := by
  unfold pwarnFalls
  split <;> simp

@[simp] theorem chooseIf_frame (s : State) (test : Choice → Bool) :
    (chooseIf s test).cells = s.cells ∧ (chooseIf s test).journals = s.journals ∧
    (chooseIf s test).quarantine = s.quarantine ∧ (chooseIf s test).scan = s.scan := by
  unfold chooseIf
  split
  · split <;> simp
  · simp

@[simp] theorem replayDue_frame (s : State) :
    (replayDue s).cells = s.cells ∧ (replayDue s).journals = s.journals ∧
    (replayDue s).quarantine = s.quarantine := by
  unfold replayDue
  split
  · split <;> simp
  · simp

@[simp] theorem ageTimerExpires_frame (s : State) :
    (ageTimerExpires s).cells = s.cells ∧ (ageTimerExpires s).journals = s.journals ∧
    (ageTimerExpires s).quarantine = s.quarantine ∧ (ageTimerExpires s).scan = s.scan := by
  unfold ageTimerExpires
  split <;> simp

end Sys2Proof.Machine
end

section
/-! PROOF. The cell array at a step: the few commands that move cells, what they leave of it, and that every other command leaves the
cells (R4, R8, R9, R15). -/

namespace Sys2Proof.Machine

set_option Elab.async false

/-! ### The commands that move cells -/

/-- The commands that may change a cell: the three resets, which may cut a pulse short, and the end of a pulse. -/
def movesCells : Instr → Bool
  | .powerOn _ | .resetPin _ | .linkCommandReset _ | .pulseExpiry _ => true
  | _ => false

/-- Every other command leaves the cells. -/
theorem exec_cells_of_not_movesCells {c : Instr} {s t : State} (hc : movesCells c = false) (h : exec c s = .next t) :
    t.cells = s.cells := by
  cases c with
  | powerOn | resetPin | linkCommandReset | pulseExpiry => simp [movesCells] at hc
  | endOfStartup =>
    obtain rfl := Host.Outcome.next.inj h
    split <;> simp
  | _ =>
    obtain rfl := Host.Outcome.next.inj h
    simp

theorem partReset_cells (s : State) (cause : ResetCause) (left : PulseResidue) :
    (partReset s cause left).cells = cellsAfterReset s.cells s.op left := rfl

/-- A reset of any cause keeps the canonical form (R15). -/
theorem partReset_cellsCanonical {s : State} (h : s.cellsCanonical) (cause : ResetCause) (left : PulseResidue) :
    (partReset s cause left).cellsCanonical := by
  unfold State.cellsCanonical
  rw [partReset_cells]
  exact cellsAfterReset_wf s.op left h

/-- The end of a pulse keeps the canonical form (R8, R9). -/
theorem pulseExpires_cellsCanonical {s : State} (h : s.cellsCanonical) (left : PulseResidue) :
    (pulseExpires s left).cellsCanonical := by
  unfold pulseExpires
  split
  · next cp latch w _ =>
    dsimp only [State.cellsCanonical]
    exact programCells_wf cp latch left h
  · next g w _ =>
    dsimp only [State.cellsCanonical]
    exact eraseCells_wf g left h
  · exact h

/-- Every command keeps the cell array in its canonical form. -/
theorem exec_cellsCanonical {c : Instr} {s t : State} (hs : s.cellsCanonical) (h : exec c s = .next t) :
    t.cellsCanonical := by
  cases hc : movesCells c with
  | false =>
    have he := exec_cells_of_not_movesCells hc h
    unfold State.cellsCanonical
    rwa [he]
  | true =>
    cases c with
    | powerOn left =>
      obtain rfl := Host.Outcome.next.inj h
      exact partReset_cellsCanonical hs _ _
    | resetPin left =>
      obtain rfl := Host.Outcome.next.inj h
      unfold resetPinFalls
      split
      · exact hs
      · exact partReset_cellsCanonical (s := { s with resetnLow := true }) hs _ _
    | linkCommandReset left =>
      obtain rfl := Host.Outcome.next.inj h
      unfold takeDueReset
      split
      · exact partReset_cellsCanonical hs _ _
      · exact hs
    | pulseExpiry left =>
      obtain rfl := Host.Outcome.next.inj h
      exact pulseExpires_cellsCanonical hs _
    | _ => cases hc

/-- Settles O53: the pulses and the resets write through `Memory.update`, and no other command writes a cell. -/
theorem stepKeepsCellsCanonical : Obligations.StepKeepsCellsCanonical := by
  intro s t hs h
  obtain ⟨-, rfl⟩ | ⟨c, rest, -, he⟩ := step_cases h
  · simpa [State.cellsCanonical] using hs
  · exact exec_cellsCanonical (s := { s with pending := rest }) hs he

/-! ### What an update leaves, cell by cell -/

/-- An update that only clears bits: inside the range no bit rises, outside nothing changes. -/
theorem update_clears {m : Memory} (h : Memory.wf m) {lo n : Nat} {f : Nat → Byte → Byte} (hf : ∀ o b, f o b &&& b = f o b)
    (a : Nat) :
    (lo ≤ a ∧ a < lo + n →
      Memory.read (Memory.update m lo f n) a &&& Memory.read m a = Memory.read (Memory.update m lo f n) a) ∧
    (a < lo ∨ lo + n ≤ a → Memory.read (Memory.update m lo f n) a = Memory.read m a) := by
  rw [read_update lo f n h]
  refine ⟨fun hin => ?_, fun hout => if_neg (by omega)⟩
  rw [if_pos hin]
  exact hf _ _

/-- An update that only sets bits: inside the range no bit falls, outside nothing changes. -/
theorem update_sets {m : Memory} (h : Memory.wf m) {lo n : Nat} {f : Nat → Byte → Byte} (hf : ∀ o b, f o b ||| b = f o b)
    (a : Nat) :
    (lo ≤ a ∧ a < lo + n →
      Memory.read (Memory.update m lo f n) a ||| Memory.read m a = Memory.read (Memory.update m lo f n) a) ∧
    (a < lo ∨ lo + n ≤ a → Memory.read (Memory.update m lo f n) a = Memory.read m a) := by
  rw [read_update lo f n h]
  refine ⟨fun hin => ?_, fun hout => if_neg (by omega)⟩
  rw [if_pos hin]
  exact hf _ _

theorem and_and_self_left (b v : Byte) : (b &&& v) &&& b = b &&& v := by
  rw [BitVec.and_comm b v, BitVec.and_assoc, BitVec.and_self]

theorem or_or_self_left (b v : Byte) : (b ||| v) ||| b = b ||| v := by
  rw [BitVec.or_comm b v, BitVec.or_assoc, BitVec.or_self]

theorem programmedByte_clears (latch : Page) (left : PulseResidue) (o : Nat) (b : Byte) :
    programmedByte latch left o b &&& b = programmedByte latch left o b := and_and_self_left _ _

theorem programCutByte_clears (left : PulseResidue) (o : Nat) (b : Byte) :
    programCutByte left o b &&& b = programCutByte left o b := and_and_self_left _ _

theorem erasedByteAfter_sets (left : PulseResidue) (o : Nat) (b : Byte) :
    erasedByteAfter left o b ||| b = erasedByteAfter left o b := or_or_self_left _ _

theorem eraseCutByte_sets (left : PulseResidue) (o : Nat) (b : Byte) :
    eraseCutByte left o b ||| b = eraseCutByte left o b := or_or_self_left _ _

/-! ### The resets and the phase timer -/

/-- Each of the three resets, where it is taken, leaves the cells as R15's table gives them. -/
theorem exec_reset_cells {s : State} {left : PulseResidue} {c : Instr}
    (hc : c = .powerOn left ∨ (c = .resetPin left ∧ s.resetnLow = false) ∨
      (c = .linkCommandReset left ∧ s.unit.resetDue = true)) :
    ∃ t, exec c s = .next t ∧ t.cells = cellsAfterReset s.cells s.op left := by
  obtain rfl | ⟨rfl, hlow⟩ | ⟨rfl, hdue⟩ := hc
  · exact ⟨_, rfl, rfl⟩
  · refine ⟨_, rfl, ?_⟩
    simp [resetPinFalls, hlow, partReset_cells]
  · refine ⟨_, rfl, ?_⟩
    simp [takeDueReset, hdue, partReset_cells]

/-- Without a pulse in its pulse phase a reset leaves the cells (R15). -/
theorem cellsAfterReset_of_no_pulse (m : Memory) {op : Option CellOp} (left : PulseResidue)
    (hp : ∀ cp latch w, op ≠ some (.programPulse cp latch (.pulse w))) (he : ∀ g w, op ≠ some (.erasePulse g (.pulse w))) :
    cellsAfterReset m op left = m := by
  unfold cellsAfterReset
  split
  · next cp latch w => exact absurd rfl (hp cp latch w)
  · next g w => exact absurd rfl (he g w)
  · rfl

/-- Settles O4: the cells are those of `cellsAfterReset`, an update that clears bits or one that sets bits. -/
theorem resetLeavesCellsByPhase : Obligations.ResetLeavesCellsByPhase := by
  intro s left c hwf hc
  obtain ⟨t, ht, hcells⟩ := exec_reset_cells hc
  refine ⟨t, ht, fun cp latch w hop => ?_, fun g w hop => ?_, fun hp he => ?_⟩
  · rw [hcells, hop]
    exact update_clears hwf (programCutByte_clears left)
  · rw [hcells, hop]
    exact update_sets hwf (eraseCutByte_sets left)
  · rw [hcells]
    exact cellsAfterReset_of_no_pulse s.cells left hp he

/-- Settles O23: each phase of the record picks its arm of the expiry; the pulse's arm is an update that clears or sets bits. -/
theorem phaseTimerRunsAPulse : Obligations.PhaseTimerRunsAPulse := by
  intro s cp g latch w left hwf
  refine ⟨fun hop => ?_, fun hop => ?_, fun hop => ?_, fun hop => ?_, fun hop j page image l n hj hl => ?_,
    fun hop j t n hj hl => ?_⟩
  · simp [exec, execSetupExpiry, setupExpires, hop]
  · simp [exec, execSetupExpiry, setupExpires, hop]
  · exact ⟨programCells s.cells cp latch left, by simp [exec, execPulseExpiry, pulseExpires, hop],
      update_clears hwf (programmedByte_clears latch left)⟩
  · exact ⟨eraseCells s.cells g left, by simp [exec, execPulseExpiry, pulseExpires, hop],
      update_sets hwf (erasedByteAfter_sets left)⟩
  · simp [exec, execHoldExpiry, holdExpiresInPhase, hop, pulseDelivered, hj, hl, removeOp, startReadPage]
  · simp [exec, execHoldExpiry, holdExpiresInPhase, hop, pulseDelivered, hj, hl, removeOp, startBlankCheck]

/-! ### Every result of a pulse has a residue -/

/-- In a residue of rising offsets the mask of an offset is the one listed for it. -/
theorem residueAt_of_mem {left : PulseResidue} (hs : left.Pairwise fun a b => a.1 < b.1) {o : Nat} {v : Byte}
    (h : (o, v) ∈ left) : residueAt left o = some v := by
  induction left with
  | nil => cases h
  | cons c rest ih =>
    obtain ⟨k, u⟩ := c
    obtain ⟨hlt, hrest⟩ := List.pairwise_cons.1 hs
    rcases List.mem_cons.1 h with heq | hmem
    · cases heq
      exact if_pos rfl
    · have hk : k < o := hlt _ hmem
      simp only [residueAt, if_neg hk.ne]
      exact ih hrest hmem

/-- The residue that lists a mask for every offset below `n`. -/
def residueOf (n : Nat) (mask : Nat → Byte) : PulseResidue := (List.range n).map fun o => (o, mask o)

theorem residueOf_rising (n : Nat) (mask : Nat → Byte) : (residueOf n mask).Pairwise fun a b => a.1 < b.1 :=
  List.pairwise_map.2 List.pairwise_lt_range

theorem residueAt_residueOf {n o : Nat} (mask : Nat → Byte) (h : o < n) : residueAt (residueOf n mask) o = some (mask o) :=
  residueAt_of_mem (residueOf_rising n mask) (List.mem_map.2 ⟨o, List.mem_range.2 h, rfl⟩)

/-- No page and no sector has more bytes than a residue may list. -/
theorem residueOf_wellFormed {n : Nat} (mask : Nat → Byte) (h : n ≤ 1088) : WellFormed.residue (residueOf n mask) = true := by
  have hlow : ∀ c ∈ residueOf n mask, c.1 < 1088 := by
    intro c hc
    obtain ⟨o, ho, rfl⟩ := List.mem_map.1 hc
    exact Nat.lt_of_lt_of_le (List.mem_range.1 ho) h
  simpa [WellFormed.residue, residueOf_rising] using hlow

/-- An update reads, at an offset of its range, as its function gives. -/
theorem read_update_offset {m : Memory} (h : Memory.wf m) {lo n o : Nat} (f : Nat → Byte → Byte) (ho : o < n) :
    Memory.read (Memory.update m lo f n) (lo + o) = f o (Memory.read m (lo + o)) := by
  rw [read_update lo f n h, if_pos (by omega), Nat.add_sub_cancel_left]

theorem Target.size_le (g : Target) : g.size ≤ 1088 := by
  cases g with
  | user _ => exact (by decide : 1024 ≤ 1088)
  | journal _ => exact Nat.le_refl 1088

/-- Settles O24: the residue lists the bytes the pulse is to leave; a byte ANDed (ORed) with a result that has no bit more (less) than
it is that result. -/
theorem everyPulseResultIsReached : Obligations.EveryPulseResultIsReached := by
  intro s cp g latch w hwf
  refine ⟨fun hop after hafter => ?_, fun hop after hafter => ?_⟩
  · let left := residueOf 64 fun o => after[o]?.getD 0xFF#8
    have hleft : WellFormed.residue left = true := residueOf_wellFormed _ (by decide)
    have hmask : ∀ x : Fin 64, residueAt left x.val = some after[x] := fun x => by
      rw [residueAt_residueOf _ x.isLt]
      simp
    refine ⟨⟨left, _, hleft, rfl, fun x => ?_⟩, left, _, hleft, rfl, fun x => ?_⟩
    · simp only [pulseExpires, hop, programCells]
      rw [read_update_offset hwf _ x.isLt, programmedByte, hmask, Option.getD_some, BitVec.and_comm, hafter]
    · rw [partReset_cells, hop, cellsAfterReset, read_update_offset hwf _ x.isLt, programCutByte, hmask, Option.getD_some,
        BitVec.and_comm, hafter]
  · let left := residueOf g.size after
    have hleft : WellFormed.residue left = true := residueOf_wellFormed _ g.size_le
    refine ⟨⟨left, _, hleft, rfl, fun o ho => ?_⟩, left, _, hleft, rfl, fun o ho => ?_⟩
    · simp only [pulseExpires, hop, eraseCells]
      rw [read_update_offset hwf _ ho, erasedByteAfter, residueAt_residueOf _ ho, Option.getD_some, BitVec.or_comm, hafter o ho]
    · rw [partReset_cells, hop, cellsAfterReset, read_update_offset hwf _ ho, eraseCutByte, residueAt_residueOf _ ho,
        Option.getD_some, BitVec.or_comm, hafter o ho]

end Sys2Proof.Machine
end

section
/-! PROOF. The law of the sector records: it looks at the quarantine records, the journals and the scan alone, and every operation that
writes one of them names a sector of the right bank (R3, R65, R104). -/

namespace Sys2Proof.Machine

set_option Elab.async false

/-! ### What the law looks at -/

/-- A write to one bank's value leaves the other's. -/
theorem PerBank.get_set {α : Type} (p : PerBank α) (b b' : Bank) (v : α) :
    (p.set b v).get b' = if b' = b then v else p.get b' := by
  cases b <;> cases b' <;> rfl

theorem journalIn_journalBank (j : Journal) : journalIn (journalBank j) = j := by cases j <;> rfl

theorem journalBank_injective : Function.Injective journalBank := Function.LeftInverse.injective journalIn_journalBank

theorem journalState_setJournal (s : State) (j j' : Journal) (v : JournalState) :
    journalState (setJournal s j v) j' = if j' = j then v else journalState s j' := by
  simp [journalState, PerBank.get_set, journalBank_injective.eq_iff]

/-- The scan reads the copy of a sector whose journal it classifies. -/
def Scan.inOrder (sc : Scan) : Prop := ∀ j sec check k sum, sc = .copyRead j sec check k sum → journalFor sec = j

/-- With the records and the journals kept, the law asks for a scan in order. -/
theorem recordsLaw_of_scan {s t : State} (h : s.recordsLaw) (hs : t.scan.inOrder)
    (hq : t.quarantine = s.quarantine := by simp) (hj : t.journals = s.journals := by simp) : t.recordsLaw := by
  obtain ⟨hrec, hjou, -⟩ := h
  refine ⟨?_, ?_, hs⟩
  · rwa [hq]
  · unfold journalState
    rwa [hj]

/-- A state with the records, the journals and the scan of one that has the law has it too. -/
theorem recordsLaw_of_frame {s t : State} (h : s.recordsLaw) (hq : t.quarantine = s.quarantine := by simp)
    (hj : t.journals = s.journals := by simp) (hs : t.scan = s.scan := by simp) : t.recordsLaw := by
  have hscan : s.scan.inOrder := h.2.2
  exact recordsLaw_of_scan h (hs ▸ hscan) hq hj

/-- A quarantine record is replaced by one that names no sector of another bank. -/
theorem recordsLaw_set_quarantine {s : State} (h : s.recordsLaw) {b : Bank} {r : QuarantineRecord}
    (hr : ∀ sec, r.sector = some sec → bankOf sec = b) :
    State.recordsLaw { s with quarantine := s.quarantine.set b r } := by
  obtain ⟨hrec, hjou, hscan⟩ := h
  refine ⟨fun b' sec hsec => ?_, hjou, hscan⟩
  dsimp only at hsec
  rw [PerBank.get_set] at hsec
  split at hsec
  · next hb => rw [hb, hr sec hsec]
  · exact hrec b' sec hsec

theorem setQuarantine_recordsLaw {s : State} (h : s.recordsLaw) (sec : SectorNo) (g : Ground) :
    (setQuarantine s sec g).recordsLaw :=
  recordsLaw_set_quarantine h fun _ hsec => by rw [Option.some.inj hsec]

theorem clearQuarantine_recordsLaw {s : State} (h : s.recordsLaw) (sec : SectorNo) : (clearQuarantine s sec).recordsLaw :=
  recordsLaw_set_quarantine h fun _ hsec => by cases hsec

/-- A journal that becomes OPEN must name a sector whose rewrites use it. -/
theorem setJournal_recordsLaw {s : State} (h : s.recordsLaw) {j : Journal} {v : JournalState}
    (hv : ∀ sec, v = .openFor sec → journalFor sec = j) : (setJournal s j v).recordsLaw := by
  obtain ⟨hrec, hjou, hscan⟩ := h
  refine ⟨hrec, fun j' sec hsec => ?_, hscan⟩
  rw [journalState_setJournal] at hsec
  split at hsec
  · next hj => rw [hj, hv sec hsec]
  · exact hjou j' sec hsec

/-- A journal that becomes BLANK or SPENT names no sector. -/
theorem setJournal_recordsLaw_of_not_open {s : State} (h : s.recordsLaw) (j : Journal) {v : JournalState}
    (hv : ∀ sec, v ≠ .openFor sec) : (setJournal s j v).recordsLaw :=
  setJournal_recordsLaw h fun sec he => absurd he (hv sec)

theorem reset_recordsLaw : State.reset.recordsLaw := by
  refine ⟨fun b sec h => ?_, fun j sec h => ?_, fun _ _ _ _ _ h => by cases h⟩
  · cases b <;> cases h
  · cases j <;> cases h

/-- A reset of any cause leaves the records of the reset state. -/
theorem partReset_recordsLaw (s : State) (cause : ResetCause) (left : PulseResidue) : (partReset s cause left).recordsLaw :=
  recordsLaw_of_frame reset_recordsLaw rfl rfl rfl

/-! ### The start-up scan -/

theorem endStartup_scan (s : State) : (endStartup s).scan = .off := by simp [endStartup]

theorem endStartup_recordsLaw {s : State} (h : s.recordsLaw) : (endStartup s).recordsLaw :=
  recordsLaw_of_scan h fun _ _ _ _ _ e => by
    rw [endStartup_scan] at e
    cases e

theorem startReplay_scan (s : State) (j : Journal) (sec : SectorNo) : (startReplay s j sec).scan = .replay j := by
  simp [startReplay]

theorem startReplay_recordsLaw {s : State} (h : s.recordsLaw) (j : Journal) (sec : SectorNo) :
    (startReplay s j sec).recordsLaw :=
  recordsLaw_of_scan h fun _ _ _ _ _ e => by
    rw [startReplay_scan] at e
    cases e

theorem scanFourthStep_recordsLaw {s : State} (h : s.recordsLaw) : (scanFourthStep s).recordsLaw := by
  unfold scanFourthStep
  split
  · exact startReplay_recordsLaw h _ _
  · exact endStartup_recordsLaw (recordsLaw_of_scan h fun _ _ _ _ _ e => by cases e)

theorem scanThirdStep_recordsLaw {s : State} (h : s.recordsLaw) : (scanThirdStep s).recordsLaw := by
  unfold scanThirdStep
  split
  · exact startReplay_recordsLaw h _ _
  · exact scanFourthStep_recordsLaw h

theorem scanAfterClassification_recordsLaw {s : State} (h : s.recordsLaw) (j : Journal) :
    (scanAfterClassification s j).recordsLaw := by
  cases j with
  | j0 => exact recordsLaw_of_scan h (fun _ _ _ _ _ e => by cases e) rfl rfl
  | j1 => exact scanThirdStep_recordsLaw h

theorem classifyAs_recordsLaw {s : State} (h : s.recordsLaw) {j : Journal} {v : JournalState}
    (hv : ∀ sec, v = .openFor sec → journalFor sec = j) : (classifyAs s j v).recordsLaw :=
  scanAfterClassification_recordsLaw (setJournal_recordsLaw h hv) j

theorem classifyAs_recordsLaw_of_not_open {s : State} (h : s.recordsLaw) (j : Journal) {v : JournalState}
    (hv : ∀ sec, v ≠ .openFor sec) : (classifyAs s j v).recordsLaw :=
  classifyAs_recordsLaw h fun sec he => absurd he (hv sec)

theorem classifyCorrupt_recordsLaw {s : State} (h : s.recordsLaw) (j : Journal) (target : BitVec 16) :
    (classifyCorrupt s j target).recordsLaw :=
  classifyAs_recordsLaw_of_not_open (recordsLaw_of_frame h) j (by simp)

theorem scanReadCopy_recordsLaw {s : State} (h : s.recordsLaw) {j : Journal} {target : SectorNo}
    (ht : journalFor target = j) (check : BitVec 16) (k : Fin 16) (sum : BitVec 16) :
    (scanReadCopy s j target check k sum).recordsLaw :=
  recordsLaw_of_scan h (fun _ _ _ _ _ e => by cases e; exact ht) rfl rfl

/-- A header names only a sector whose rewrites use its journal (R141). -/
theorem journalFor_of_headerSector {j : Journal} {header : Page} {sec : SectorNo} (h : headerSector j header = some sec) :
    journalFor sec = j := by
  unfold headerSector at h
  split at h
  · dsimp only at h
    split at h
    · next hj =>
      rw [← Option.some.inj h]
      exact hj
    · cases h
  · cases h

theorem scanHeader_recordsLaw {s : State} (h : s.recordsLaw) (j : Journal) (header : Page) :
    (scanHeader s j header).recordsLaw := by
  unfold scanHeader
  split
  · exact classifyAs_recordsLaw_of_not_open h j (by simp)
  · split
    · exact classifyAs_recordsLaw_of_not_open h j (by simp)
    · split
      · exact classifyCorrupt_recordsLaw h j _
      · next sec hsec => exact scanReadCopy_recordsLaw h (journalFor_of_headerSector hsec) _ _ _

theorem scanCopy_recordsLaw {s : State} (h : s.recordsLaw) {j : Journal} {target : SectorNo}
    (ht : journalFor target = j) (check : BitVec 16) (k : Fin 16) (sum : BitVec 16) (page : Page) :
    (scanCopy s j target check k sum page).recordsLaw := by
  unfold scanCopy
  split
  · exact scanReadCopy_recordsLaw h ht _ _ _
  · split
    · exact classifyAs_recordsLaw h fun sec he => by cases he; exact ht
    · exact classifyCorrupt_recordsLaw h j _

theorem scanBlank_recordsLaw {s : State} (h : s.recordsLaw) (blank : Bool) : (scanBlank s blank).recordsLaw := by
  unfold scanBlank
  split
  · split
    · exact classifyAs_recordsLaw_of_not_open h _ (by simp)
    · exact recordsLaw_of_scan h (fun _ _ _ _ _ e => by cases e) rfl rfl
  · exact h

theorem scanRead_recordsLaw {s : State} (h : s.recordsLaw) (page : Page) : (scanRead s page).recordsLaw := by
  have hscan : s.scan.inOrder := h.2.2
  unfold scanRead
  split
  · exact scanHeader_recordsLaw h _ _
  · next j target check k sum _ hcopy => exact scanCopy_recordsLaw h (hscan _ _ _ _ _ hcopy) _ _ _ _
  · exact h

/-! ### The ends of jobs -/

theorem endJob_recordsLaw {s : State} (h : s.recordsLaw) : (endJob s).recordsLaw := recordsLaw_of_frame h

theorem endReplay_recordsLaw {s : State} (h : s.recordsLaw) : (endReplay s).recordsLaw := by
  unfold endReplay
  dsimp only
  split
  · exact scanFourthStep_recordsLaw (recordsLaw_of_frame h rfl rfl rfl)
  · exact endStartup_recordsLaw (recordsLaw_of_scan h (fun _ _ _ _ _ e => by cases e) rfl rfl)

theorem commitSucceeds_recordsLaw {s : State} (h : s.recordsLaw) (j : Job) : (commitSucceeds s j).recordsLaw :=
  endJob_recordsLaw (recordsLaw_of_frame h)

theorem commitFails_recordsLaw {s : State} (h : s.recordsLaw) (j : Job) (page : PageNo) (cause : LoopFailure) (pulses : Nat) :
    (commitFails s j page cause pulses).recordsLaw :=
  endJob_recordsLaw (recordsLaw_of_frame h)

theorem journalEraseFails_recordsLaw {s : State} (h : s.recordsLaw) (j : Job) : (journalEraseFails s j).recordsLaw :=
  endJob_recordsLaw (recordsLaw_of_frame h)

theorem journalIsHeld_recordsLaw {s : State} (h : s.recordsLaw) (j : Job) (page : PageNo) :
    (journalIsHeld s j page).recordsLaw :=
  endJob_recordsLaw (recordsLaw_of_frame h)

theorem copyStepFails_recordsLaw {s : State} (h : s.recordsLaw) (j : Job) (step : FailedStep) {after : JournalState}
    (ha : ∀ sec, after ≠ .openFor sec) : (copyStepFails s j step after).recordsLaw :=
  endJob_recordsLaw (setJournal_recordsLaw_of_not_open (recordsLaw_of_frame h) _ ha)

theorem rewriteTargetFails_recordsLaw {s : State} (h : s.recordsLaw) (j : Job) (step : FaultStep) (pulses : Nat) :
    (rewriteTargetFails s j step pulses).recordsLaw :=
  endJob_recordsLaw (recordsLaw_of_frame (setQuarantine_recordsLaw h j.sector .copy))

theorem rewriteCloseFails_recordsLaw {s : State} (h : s.recordsLaw) (j : Job) (pulses : Nat) :
    (rewriteCloseFails s j pulses).recordsLaw :=
  endJob_recordsLaw (recordsLaw_of_frame (setQuarantine_recordsLaw h j.sector .cells))

theorem recoveryTargetFails_recordsLaw {s : State} (h : s.recordsLaw) (j : Job) (step : FaultStep) (pulses : Nat) :
    (recoveryTargetFails s j step pulses).recordsLaw := by
  have hq := setQuarantine_recordsLaw h j.sector .copy
  unfold recoveryTargetFails
  split
  · exact endReplay_recordsLaw (recordsLaw_of_frame hq)
  · exact endJob_recordsLaw (recordsLaw_of_frame hq)

theorem targetFails_recordsLaw {s : State} (h : s.recordsLaw) (j : Job) (step : FaultStep) (pulses : Nat) :
    (targetFails s j step pulses).recordsLaw := by
  unfold targetFails
  split
  · exact rewriteTargetFails_recordsLaw h j step pulses
  · exact recoveryTargetFails_recordsLaw h j step pulses

theorem closeStepSucceeds_recordsLaw {s : State} (h : s.recordsLaw) (j : Job) {after : JournalState}
    (ha : ∀ sec, after ≠ .openFor sec) : (closeStepSucceeds s j after).recordsLaw := by
  have hc := clearQuarantine_recordsLaw (setJournal_recordsLaw_of_not_open h (journalFor j.sector) ha) j.sector
  unfold closeStepSucceeds
  dsimp only
  split
  · exact endReplay_recordsLaw (recordsLaw_of_frame hc)
  · exact endJob_recordsLaw (recordsLaw_of_frame hc)
  · exact endJob_recordsLaw hc

theorem closeStepFails_recordsLaw {s : State} (h : s.recordsLaw) (j : Job) (pulses : Nat) :
    (closeStepFails s j pulses).recordsLaw := by
  have hq := setQuarantine_recordsLaw h j.sector .cells
  unfold closeStepFails
  split
  · exact endReplay_recordsLaw (recordsLaw_of_frame hq)
  · exact endJob_recordsLaw (recordsLaw_of_frame hq)

/-! ### The steps of jobs -/

theorem journalCheck_recordsLaw {s : State} (h : s.recordsLaw) (j : Job) (page : PageNo) :
    (journalCheck s j page).recordsLaw := by
  unfold journalCheck
  split
  · exact recordsLaw_of_frame h
  · exact recordsLaw_of_frame h
  · split
    · exact recordsLaw_of_frame h
    · exact journalIsHeld_recordsLaw h j page
  · exact recordsLaw_of_frame h

theorem startHeader_recordsLaw {s : State} (h : s.recordsLaw) (j : Job) : (startHeader s j).recordsLaw :=
  recordsLaw_of_frame (setJournal_recordsLaw_of_not_open (v := .spent) h (journalFor j.sector) (by simp)) rfl rfl rfl

theorem copyFrom_recordsLaw {s : State} (h : s.recordsLaw) (j : Job) (img : Image) (k : Nat) :
    (copyFrom s j img k).recordsLaw := by
  unfold copyFrom
  split
  · exact recordsLaw_of_frame (setJournal_recordsLaw_of_not_open (v := .spent) h (journalFor j.sector) (by simp))
  · exact startHeader_recordsLaw h j

theorem merge_recordsLaw {s : State} (h : s.recordsLaw) (j : Job) (img : Image) : (merge s j img).recordsLaw :=
  copyFrom_recordsLaw (recordsLaw_of_frame h) _ _ _

theorem loadNext_recordsLaw {s : State} (h : s.recordsLaw) (j : Job) (k : Fin 16) (page : Page) :
    (loadNext s j k page).recordsLaw := by
  unfold loadNext
  split
  · split
    · exact recordsLaw_of_frame h
    · exact merge_recordsLaw h j _
  · exact h

/-- The journal of a rewrite becomes OPEN for the sector it serves (R74). -/
theorem copyDoneSucceeds_recordsLaw {s : State} (h : s.recordsLaw) (j : Job) : (copyDoneSucceeds s j).recordsLaw :=
  recordsLaw_of_frame (setJournal_recordsLaw (v := .openFor j.sector) h fun _ he => by cases he; rfl) rfl rfl rfl

theorem closeHeaderRead_recordsLaw {s : State} (h : s.recordsLaw) (j : Job) (header : Page) :
    (closeHeaderRead s j header).recordsLaw := by
  unfold closeHeaderRead
  split
  · exact closeStepSucceeds_recordsLaw h j (by simp)
  · exact recordsLaw_of_frame h

theorem programSucceeds_recordsLaw {s : State} (h : s.recordsLaw) (j : Job) : (programSucceeds s j).recordsLaw := by
  unfold programSucceeds
  split
  · exact commitSucceeds_recordsLaw h j
  · split
    · exact copyFrom_recordsLaw h j _ _
    · exact h
  · exact recordsLaw_of_frame h
  · exact copyDoneSucceeds_recordsLaw h j
  · exact recordsLaw_of_frame h
  · split
    · exact endJob_recordsLaw (setJournal_recordsLaw_of_not_open h _ (by simp))
    · exact closeStepSucceeds_recordsLaw h j (by simp)
  · exact h

theorem programFails_recordsLaw {s : State} (h : s.recordsLaw) (j : Job) (cause : LoopFailure) (pulses : Nat) :
    (programFails s j cause pulses).recordsLaw := by
  unfold programFails
  split
  · split
    · exact commitFails_recordsLaw h j _ cause pulses
    · exact h
  · exact copyStepFails_recordsLaw h j _ (by simp)
  · exact copyStepFails_recordsLaw h j _ (by simp)
  · exact recordsLaw_of_frame h
  · exact targetFails_recordsLaw h j _ pulses
  · exact recordsLaw_of_frame h
  · exact h

theorem eraseSucceeds_recordsLaw {s : State} (h : s.recordsLaw) (j : Job) : (eraseSucceeds s j).recordsLaw := by
  unfold eraseSucceeds
  split
  · exact recordsLaw_of_frame (setJournal_recordsLaw_of_not_open (v := .blank) h (journalFor j.sector) (by simp))
  · exact copyStepFails_recordsLaw h j _ (by simp)
  · exact recordsLaw_of_frame h
  · split
    · exact endJob_recordsLaw (setJournal_recordsLaw_of_not_open h _ (by simp))
    · exact closeStepSucceeds_recordsLaw h j (by simp)
  · exact h

theorem eraseFails_recordsLaw {s : State} (h : s.recordsLaw) (j : Job) (pulses : Nat) : (eraseFails s j pulses).recordsLaw := by
  unfold eraseFails
  split
  · exact journalEraseFails_recordsLaw h j
  · exact copyStepFails_recordsLaw h j _ (by simp)
  · exact targetFails_recordsLaw h j _ pulses
  · split
    · exact rewriteCloseFails_recordsLaw h j pulses
    · exact closeStepFails_recordsLaw h j pulses
  · exact h

theorem preReadDone_recordsLaw {s : State} (h : s.recordsLaw) (j : Job) (page : Page) : (preReadDone s j page).recordsLaw := by
  unfold preReadDone
  split
  · dsimp only
    split
    · exact commitSucceeds_recordsLaw (recordsLaw_of_frame h) j
    · split
      · exact journalCheck_recordsLaw (recordsLaw_of_frame h) _ _
      · exact recordsLaw_of_frame h
  · exact h

/-! ### Completions -/

theorem verifyDone_recordsLaw {s : State} (h : s.recordsLaw) (j : Job) (cp : CellPage) (image : Page) (pulses : Nat)
    (read : Page) : (verifyDone s j cp image pulses read).recordsLaw := by
  unfold verifyDone
  split
  · exact programSucceeds_recordsLaw h _
  · exact recordsLaw_of_frame h
  · exact programFails_recordsLaw h _ _ _

theorem jobReads_recordsLaw {s : State} (h : s.recordsLaw) (j : Job) (page : Page) : (jobReads s j page).recordsLaw := by
  unfold jobReads
  split
  · exact verifyDone_recordsLaw h j _ _ _ _
  · exact h
  · split
    · exact preReadDone_recordsLaw h j page
    · exact loadNext_recordsLaw h j _ page
    · exact recordsLaw_of_frame h
    · exact closeHeaderRead_recordsLaw h j page
    · exact h

theorem jobBlankCheck_recordsLaw {s : State} (h : s.recordsLaw) (j : Job) (blank : Bool) :
    (jobBlankCheck s j blank).recordsLaw := by
  unfold jobBlankCheck
  split
  · split
    · exact eraseSucceeds_recordsLaw h _
    · split
      · exact recordsLaw_of_frame h
      · exact eraseFails_recordsLaw h _ _
  · exact h

theorem readPageDelivered_recordsLaw {s : State} (h : s.recordsLaw) (cp : CellPage) : (readPageDelivered s cp).recordsLaw := by
  unfold readPageDelivered
  split
  · exact jobReads_recordsLaw (recordsLaw_of_frame h) _ _
  · exact scanRead_recordsLaw (recordsLaw_of_frame h) _

theorem blankCheckDelivered_recordsLaw {s : State} (h : s.recordsLaw) (g : Target) : (blankCheckDelivered s g).recordsLaw := by
  unfold blankCheckDelivered
  split
  · exact jobBlankCheck_recordsLaw (recordsLaw_of_frame h) _ _
  · exact scanBlank_recordsLaw (recordsLaw_of_frame h) _

theorem evaluateHeldRead_recordsLaw {s : State} (h : s.recordsLaw) (b : Bank) : (evaluateHeldRead b s).recordsLaw :=
  recordsLaw_of_frame h

theorem readPageCompletes_recordsLaw {s : State} (h : s.recordsLaw) : (readPageCompletes s).recordsLaw := by
  unfold readPageCompletes
  split
  · exact evaluateHeldRead_recordsLaw (readPageDelivered_recordsLaw h _) _
  · exact h

theorem blankCheckCompletes_recordsLaw {s : State} (h : s.recordsLaw) : (blankCheckCompletes s).recordsLaw := by
  unfold blankCheckCompletes
  split
  · exact evaluateHeldRead_recordsLaw (blankCheckDelivered_recordsLaw h _) _
  · exact h

/-! ### Request frames -/

theorem chooseJob_recordsLaw {s : State} (h : s.recordsLaw) : (chooseJob s).recordsLaw := recordsLaw_of_frame h

theorem answerStatus_recordsLaw {s : State} (h : s.recordsLaw) (st : Status) (tag : Byte) :
    (answerStatus s st tag).recordsLaw :=
  recordsLaw_of_frame h

theorem breakFound_recordsLaw {s : State} (h : s.recordsLaw) : (breakFound s).recordsLaw := recordsLaw_of_frame h

/-- A pending job is set in a record that keeps its sector (R107). -/
theorem setPending_recordsLaw {s : State} (h : s.recordsLaw) (b : Bank) (p : PendingJob) : (setPending s b p).recordsLaw :=
  chooseJob_recordsLaw
    (recordsLaw_set_quarantine (r := { s.quarantine.get b with pending := p }) h fun sec hsec => h.1 b sec hsec)

theorem runRecovery_recordsLaw {s : State} (h : s.recordsLaw) (tag bank : Byte) (p : PendingJob) :
    (runRecovery s tag bank p).recordsLaw := by
  unfold runRecovery
  split
  · exact answerStatus_recordsLaw h _ tag
  · repeat' split
    · exact answerStatus_recordsLaw h _ tag
    · exact answerStatus_recordsLaw h _ tag
    · exact answerStatus_recordsLaw h _ tag
    · exact answerStatus_recordsLaw (setPending_recordsLaw h _ _) _ tag

/-- RESTORE_SECTOR and DROP_JOURNAL are the commands that touch a record. -/
theorem runCommand_recordsLaw {s : State} (h : s.recordsLaw) (cmd tag : Byte) (args : List Byte) :
    (runCommand s cmd tag args).recordsLaw := by
  unfold runCommand
  split
  · repeat' split
    all_goals exact recordsLaw_of_frame h
  · split
    · exact recordsLaw_of_frame h
    · split
      · exact recordsLaw_of_frame h
      · split
        · exact runRecovery_recordsLaw h _ _ .restore
        · split
          · exact runRecovery_recordsLaw h _ _ .close
          · exact recordsLaw_of_frame h
  · repeat' split
    all_goals exact recordsLaw_of_frame h
  · split <;> exact recordsLaw_of_frame h
  · split <;> exact recordsLaw_of_frame h
  · exact recordsLaw_of_frame h

theorem executeFrame_recordsLaw {s : State} (h : s.recordsLaw) (f : Frame) : (executeFrame s f).recordsLaw := by
  unfold executeFrame
  split
  · exact recordsLaw_of_frame h
  · repeat' split
    · exact recordsLaw_of_frame h
    · exact recordsLaw_of_frame h
    · exact runCommand_recordsLaw h _ _ _
    · exact recordsLaw_of_frame h

theorem completeFrame_recordsLaw {s : State} (h : s.recordsLaw) (f : Frame) : (completeFrame s f).recordsLaw := by
  unfold completeFrame
  split
  · exact executeFrame_recordsLaw (recordsLaw_of_frame h) f
  · exact recordsLaw_of_frame h
  · exact recordsLaw_of_frame h

theorem joinFrame_recordsLaw {s : State} (h : s.recordsLaw) (byte : Byte) : (joinFrame s byte).recordsLaw := by
  unfold joinFrame keepBytes
  split
  · split
    · exact completeFrame_recordsLaw (recordsLaw_of_frame h) _
    · exact recordsLaw_of_frame h
  · exact recordsLaw_of_frame h
  · exact h

theorem receiveByte_recordsLaw {s : State} (h : s.recordsLaw) (byte : Byte) : (receiveByte s byte).recordsLaw := by
  unfold receiveByte
  split
  · exact joinFrame_recordsLaw (recordsLaw_of_frame h) byte
  · exact h

theorem receiveBytes_recordsLaw {s : State} (h : s.recordsLaw) (bytes : List Byte) : (receiveBytes s bytes).recordsLaw := by
  induction bytes generalizing s with
  | nil => exact h
  | cons b bytes ih => exact ih (receiveByte_recordsLaw h b)

theorem responseEnds_recordsLaw {s : State} (h : s.recordsLaw) : (responseEnds s).recordsLaw := by
  unfold responseEnds linkMovesOn
  split
  · exact recordsLaw_of_frame h
  · dsimp only
    split
    · exact executeFrame_recordsLaw (recordsLaw_of_frame h) _
    · exact recordsLaw_of_frame h
  · exact recordsLaw_of_frame h

theorem byteComes_recordsLaw {s : State} (h : s.recordsLaw) (byte : Byte) : (byteComes s byte).recordsLaw := by
  unfold byteComes
  split
  · split
    · exact recordsLaw_of_frame h
    · exact receiveByte_recordsLaw h byte
  · exact receiveByte_recordsLaw h byte

theorem responseSentComes_recordsLaw {s : State} (h : s.recordsLaw) : (responseSentComes s).recordsLaw := by
  unfold responseSentComes
  split
  · split
    · exact recordsLaw_of_frame h
    · exact responseEnds_recordsLaw h
  · exact responseEnds_recordsLaw h

theorem breakComes_recordsLaw {s : State} (h : s.recordsLaw) : (breakComes s).recordsLaw := by
  unfold breakComes breakWithRequest
  split
  · split
    · exact executeFrame_recordsLaw (recordsLaw_of_frame h) _
    · exact breakFound_recordsLaw (executeFrame_recordsLaw (recordsLaw_of_frame h) _)
  · exact recordsLaw_of_frame h

/-! ### The commands -/

theorem releaseReset_recordsLaw {s : State} (h : s.recordsLaw) : (releaseReset s).recordsLaw := by
  unfold releaseReset
  split
  · refine recordsLaw_of_scan h fun _ _ _ _ _ e => ?_
    simp at e
  · exact h

theorem replayDue_recordsLaw {s : State} (h : s.recordsLaw) : (replayDue s).recordsLaw := by
  unfold replayDue
  split
  · split
    · exact startReplay_recordsLaw h _ _
    · exact h
  · exact h

/-- Every command keeps quarantine records and journals to their banks: the resets clear them, a release, a REPLAY and a completion
take the scan or the sequencer on, a request may reach RESTORE_SECTOR, and the others touch none of them. -/
theorem exec_recordsLaw {c : Instr} {s t : State} (h : s.recordsLaw) (he : exec c s = .next t) : t.recordsLaw := by
  cases c with
  | powerOn left =>
    obtain rfl := Host.Outcome.next.inj he
    exact partReset_recordsLaw _ _ _
  | resetPin left =>
    obtain rfl := Host.Outcome.next.inj he
    unfold resetPinFalls
    split
    · exact h
    · exact partReset_recordsLaw _ _ _
  | linkCommandReset left =>
    obtain rfl := Host.Outcome.next.inj he
    unfold takeDueReset
    split
    · exact partReset_recordsLaw _ _ _
    · exact h
  | resetRelease =>
    obtain rfl := Host.Outcome.next.inj he
    exact releaseReset_recordsLaw h
  | replay =>
    obtain rfl := Host.Outcome.next.inj he
    exact replayDue_recordsLaw h
  | endOfStartup =>
    obtain rfl := Host.Outcome.next.inj he
    split
    · exact endStartup_recordsLaw h
    · exact h
  | readPageComplete =>
    obtain rfl := Host.Outcome.next.inj he
    exact readPageCompletes_recordsLaw h
  | blankCheckComplete =>
    obtain rfl := Host.Outcome.next.inj he
    exact blankCheckCompletes_recordsLaw h
  | byteReceived byte =>
    obtain rfl := Host.Outcome.next.inj he
    exact byteComes_recordsLaw h byte
  | responseSent =>
    obtain rfl := Host.Outcome.next.inj he
    exact responseSentComes_recordsLaw h
  | breakRecognised =>
    obtain rfl := Host.Outcome.next.inj he
    exact breakComes_recordsLaw h
  | lengthFaultFrame | badCommand | ident | status | getRegion | setRegion | getSettings | setSetting | flush | readFault
  | ackFault | retryPage | discardPage | restoreSector | dropJournal | resetPart =>
    obtain rfl := Host.Outcome.next.inj he
    exact receiveBytes_recordsLaw h _
  | _ =>
    obtain rfl := Host.Outcome.next.inj he
    exact recordsLaw_of_frame h

/-- Settles O59: the idle step takes a transaction, which touches no record; a command keeps the law. -/
theorem stepKeepsTheRecordsLaw : Obligations.StepKeepsTheRecordsLaw := by
  intro s t h hstep
  obtain ⟨-, rfl⟩ | ⟨c, rest, -, he⟩ := step_cases hstep
  · exact recordsLaw_of_frame h
  · exact exec_recordsLaw (s := { s with pending := rest }) (recordsLaw_of_frame h) he

end Sys2Proof.Machine
end

section
/-! PROOF. The read path: which bank a read needs, when a bank is busy, and what taking and evaluating a read come to (R12, R84, R86,
R90, R91). -/

namespace Sys2Proof.Machine

set_option Elab.async false

/-! ### The bank a read needs -/

theorem mem_positionsOf {t : Transaction} {x : Fin 64} : x ∈ positionsOf t ↔ isCovered t x = true := by
  rw [positionsOf, List.mem_filter]
  exact and_iff_right (List.mem_finRange x)

theorem lineByte_eq_none_iff {s : State} {p : PageNo} {x : Fin 64} :
    lineByte s p x = none ↔
      ∀ k ∈ s.ageList, s.lines[k].state = .free ∨ s.lines[k].page ≠ some p ∨ s.lines[k].staged[x] = none := by
  rw [lineByte_eq, List.findSome?_eq_none_iff]
  simp only [List.mem_reverse, lineGives]
  refine forall₂_congr fun k _ => ?_
  rw [ite_eq_right_iff]
  tauto

theorem bufferByte_eq_none_iff {s : State} {p : PageNo} {x : Fin 64} :
    bufferByte s p x = none ↔ ∀ img, s.buffer ≠ .loaded (sectorOf p) img := by
  unfold bufferByte
  split
  · next sec img hb =>
    rw [hb, ite_eq_right_iff]
    simp
  · next hb => exact ⟨fun _ img => hb _ img, fun _ => rfl⟩

/-- A byte reaches the ground exactly when no line and no buffer gives it (R90). -/
theorem reachesGround_iff {s : State} {p : PageNo} {x : Fin 64} : reachesGround s p x = true ↔ s.fallsThrough p x := by
  simp [reachesGround, State.fallsThrough, lineByte_eq_none_iff, bufferByte_eq_none_iff]

theorem neededBank_eq_none {s : State} {t : Transaction}
    (h : ∀ x : Fin 64, isCovered t x = true → ¬ s.fallsThrough (transactionPage t) x) : neededBank s t = none := by
  unfold neededBank
  rw [if_neg]
  rw [List.any_eq_true]
  rintro ⟨x, hx, hr⟩
  exact h x (mem_positionsOf.1 hx) (reachesGround_iff.1 hr)

theorem neededBank_eq_ground {s : State} {t : Transaction}
    (h : ∃ x : Fin 64, isCovered t x = true ∧ s.fallsThrough (transactionPage t) x) :
    neededBank s t = some (groundPage s (transactionPage t)).target.bank := by
  obtain ⟨x, hx, hf⟩ := h
  unfold neededBank
  rw [if_pos]
  exact List.any_eq_true.2 ⟨x, mem_positionsOf.2 hx, reachesGround_iff.2 hf⟩

/-- The record names a sector with ground CELLS. -/
theorem named_cells_iff {s : State} {sec : SectorNo} :
    (isNamed s sec && (s.quarantine.get (bankOf sec)).ground == .cells) = true ↔
      (s.quarantine.get (bankOf sec)).sector = some sec ∧ (s.quarantine.get (bankOf sec)).ground = .cells := by
  simp [isNamed]

/-- No journal's copy is the ground exactly when the cells are (R86). -/
theorem copyOf_eq_none_iff {s : State} {sec : SectorNo} : copyOf s sec = none ↔ s.groundIsCells sec := by
  unfold copyOf State.groundIsCells
  split
  · next hn => exact iff_of_true rfl (Or.inr (named_cells_iff.1 hn))
  · next hn =>
    rw [named_cells_iff] at hn
    rw [or_iff_left hn]
    split
    · next h0 => exact iff_of_false nofun fun h => h .j0 h0
    · next h0 =>
      split
      · next h1 => exact iff_of_false nofun fun h => h .j1 h1
      · next h1 =>
        refine iff_of_true rfl fun j => ?_
        cases j with
        | j0 => exact h0
        | j1 => exact h1

/-- A journal whose copy is the ground is OPEN for the sector (R86). -/
theorem journalState_of_copyOf {s : State} {sec : SectorNo} {j : Journal} (h : copyOf s sec = some j) :
    journalState s j = .openFor sec := by
  unfold copyOf at h
  split at h
  · cases h
  · split at h
    · next h0 =>
      cases h
      exact h0
    · split at h
      · next h1 =>
        cases h
        exact h1
      · cases h

/-- Where the cells are the ground, its bank is the sector's own. -/
theorem groundPage_bank_of_cells {s : State} {p : PageNo} (h : s.groundIsCells (sectorOf p)) :
    (groundPage s p).target.bank = bankOf (sectorOf p) := by
  unfold groundPage
  rw [copyOf_eq_none_iff.2 h]
  rfl

/-- Where the copy of the one journal OPEN for the sector is the ground, its bank is that journal's. -/
theorem groundPage_bank_of_copy {s : State} {p : PageNo} {j : Journal} (h : ¬ s.groundIsCells (sectorOf p))
    (hone : ∀ j', journalState s j' = .openFor (sectorOf p) → j' = j) :
    (groundPage s p).target.bank = journalBank j := by
  unfold groundPage
  cases hc : copyOf s (sectorOf p) with
  | none => exact absurd (copyOf_eq_none_iff.1 hc) h
  | some j' =>
    rw [hone j' (journalState_of_copyOf hc)]
    rfl

theorem journalBank_eq_ite (j : Journal) : journalBank j = if j = .j0 then .bank0 else .bank1 := by
  cases j <;> rfl

/-! ### Busy banks -/

theorem bankBusy_of_no_op {s : State} (h : s.op = none) (b : Bank) : bankBusy s b = false := by
  simp [bankBusy, h]

/-- The bank of the operation in flight is busy, and no other. -/
theorem bankBusy_iff {s : State} {o : CellOp} (h : s.op = some o) {b : Bank} : bankBusy s b = true ↔ b = o.bank := by
  simp only [bankBusy, h, beq_iff_eq]
  exact eq_comm

theorem bankOf_sectorOf (p : PageNo) : bankOf (sectorOf p) = if p.val < 2048 then .bank0 else .bank1 := by
  unfold bankOf sectorOf
  exact if_congr (by dsimp only; omega) rfl rfl

/-! ### Taking and evaluating a read -/

theorem canServe_iff {s : State} {t : Transaction} :
    canServe s t = true ↔ neededBank s t = none ∨ ∃ b, neededBank s t = some b ∧ bankBusy s b = false := by
  unfold canServe
  cases neededBank s t <;> simp

theorem canServe_of_busy {s : State} {t : Transaction} {b : Bank} (hn : neededBank s t = some b) (hb : bankBusy s b = true) :
    canServe s t = false := by
  simp [canServe, hn, hb]

theorem serveRead_eq (s : State) (t : Transaction) :
    serveRead s t = { s with port := .idle, portAnswer := some (s.readAnswer t) } := rfl

/-- Where nothing can start, the job choice leaves the state (R43). -/
theorem chooseJob_of_nothingToStart {s : State} (h : s.nothingToStart) : chooseJob s = s := by
  have hn : nextJob s = none := by
    unfold nextJob
    split
    · next hidle =>
      have hjob : s.job = none := by simpa using (Bool.and_eq_true_iff.1 hidle).1
      obtain hrun | ⟨hq, hz, ho⟩ := h
      · simp [hjob] at hrun
      · simp [pendingChoice, headChoice, hq, PerBank.get, hz, ho]
    · rfl
  simp [chooseJob, hn]

/-- A read that passes the checks of an IDLE port, start-up ended, is handed to the read path; no job starts behind it (R130). -/
theorem exec_portTransaction_read {s : State} {t : Transaction} (hp : s.portReady) (hn : s.nothingToStart) (hs : s.started)
    (hd : t.direction = .read) (ha : passesAlignment t = true) (hk : kindOf s (transactionPage t) ≠ .noAccess) :
    exec (.portTransaction t) s = .next (takeRead { s with portAnswer := none } t (kindOf s (transactionPage t))) := by
  have hstart : s.frontEnd ≠ .starting := by
    intro e
    simp [State.started, e] at hs
  have htake : takeTransaction { s with portAnswer := none } t =
      takeRead { s with portAnswer := none } t (kindOf s (transactionPage t)) := by
    refine (takeTransaction_continues (u := { s with portAnswer := none }) ha hk (by simp [hd]) hstart).trans ?_
    rw [continueChecks, hd]
    rfl
  rw [exec_portTransaction_of_ready hp, htake, chooseJob_of_nothingToStart]
  simpa [State.nothingToStart, State.nothingPending] using hn

theorem reevaluateHeldRead_of_held {s : State} {t : Transaction} {k : AccessKind} {w : Nat} (h : s.port = .held t k .bank w) :
    reevaluateHeldRead s = if canServe s t then serveRead s t else s := by
  simp [reevaluateHeldRead, h]

theorem evaluateHeldRead_of_held {s : State} {t : Transaction} {k : AccessKind} {w : Nat} (h : s.port = .held t k .bank w)
    (b : Bank) :
    evaluateHeldRead b s =
      if canServe s t || neededBank s t == some b then serveRead s t
      else if Config.startTakenFirst s.freeIndex then { s with freeIndex := s.freeIndex + 1 }
      else serveRead { s with freeIndex := s.freeIndex + 1 } t := by
  simp [evaluateHeldRead, h]

/-- HELD_READ_EVALUATED serves a read that can be served. -/
theorem exec_heldReadEvaluated_serves {s : State} {t : Transaction} {k : AccessKind} {w : Nat}
    (h : s.port = .held t k .bank w) (hc : canServe s t = true) :
    exec .heldReadEvaluated s = .next { s with port := .idle, portAnswer := some (s.readAnswer t) } := by
  simp [exec, execHeldReadEvaluated, reevaluateHeldRead_of_held h, hc, serveRead_eq]

/-- HELD_READ_EVALUATED leaves a read whose bank is busy. -/
theorem exec_heldReadEvaluated_waits {s : State} {t : Transaction} {k : AccessKind} {w : Nat}
    (h : s.port = .held t k .bank w) (hc : canServe s t = false) : exec .heldReadEvaluated s = .next s := by
  simp [exec, execHeldReadEvaluated, reevaluateHeldRead_of_held h, hc]

/-! ### The statements -/

/-- A read is served at once or held for its bank (R84, R90). -/
theorem read_served_or_held {s : State} {t : Transaction} (hp : s.portReady) (hn : s.nothingToStart) (hs : s.started)
    (hd : t.direction = .read) (ha : passesAlignment t = true) (hk : kindOf s (transactionPage t) ≠ .noAccess) :
    (neededBank s t = none ∨ (∃ b, neededBank s t = some b ∧ bankBusy s b = false) →
      exec (.portTransaction t) s = .next { s with portAnswer := some (s.readAnswer t) }) ∧
    (∀ b, neededBank s t = some b → bankBusy s b = true →
      exec (.portTransaction t) s = .next
        { s with portAnswer := none,
                 port := .held t (kindOf s (transactionPage t)) .bank (s.settings.holdLimit * 32) }) := by
  rw [exec_portTransaction_read hp hn hs hd ha hk]
  refine ⟨fun hfree => ?_, fun b hneed hbusy => ?_⟩
  · have hc : canServe { s with portAnswer := none } t = true := canServe_iff.2 hfree
    obtain ⟨hidle, -, -⟩ := hp
    rw [takeRead, if_pos hc, serveRead_eq, ← hidle]
    rfl
  · have hc : canServe { s with portAnswer := none } t = false := canServe_of_busy (b := b) hneed hbusy
    rw [takeRead, hc, if_neg (by simp)]
    rfl

/-- Settles O15: taking the read, the bank it needs, and the busy bank, each by its own lemmas. -/
theorem readIsServedOrHeldForItsBank : Obligations.ReadIsServedOrHeldForItsBank := by
  refine ⟨fun s t hp hn hs hd ha hk => read_served_or_held hp hn hs hd ha hk, ?_, fun s b => ⟨?_, ?_, ?_, ?_⟩⟩
  · rintro s t _ _ rfl rfl
    refine ⟨neededBank_eq_none, fun hfall => ⟨fun hcells => ?_, fun j hcopy _ hone => ?_⟩⟩
    · rw [neededBank_eq_ground hfall, groundPage_bank_of_cells hcells]
      rfl
    · rw [neededBank_eq_ground hfall, groundPage_bank_of_copy hcopy hone, journalBank_eq_ite]
  · exact fun hop => bankBusy_of_no_op hop b
  · rintro p latch ph (hop | hop) <;> rw [bankBusy_iff hop, ← bankOf_sectorOf] <;> rfl
  · rintro sec ph (hop | hop) <;> rw [bankBusy_iff hop] <;> rfl
  · rintro j k latch ph (hop | hop | hop | hop) <;> rw [bankBusy_iff hop, ← journalBank_eq_ite] <;> rfl

/-- Settles O20: on its own a held read goes by `canServe`; at a completion the completed bank counts as free, and a read that still
waits is decided by the free value. -/
theorem heldReadIsEvaluated : Obligations.HeldReadIsEvaluated := by
  refine ⟨fun s t k w hheld => ⟨fun hfree => ?_, fun b hneed hbusy => ?_⟩, ?_,
    fun u b t k w hheld => ⟨fun hfree => ?_, fun c hneed hne hbusy => ?_⟩, fun u b hnone => ?_⟩
  · exact exec_heldReadEvaluated_serves hheld (canServe_iff.2 hfree)
  · exact exec_heldReadEvaluated_waits hheld (canServe_of_busy hneed hbusy)
  · rintro s t k w _ hheld rfl
    refine ⟨fun hfree => exec_heldReadEvaluated_serves hheld (canServe_iff.2 ?_), fun o hop hfall hcells => ?_⟩
    · obtain hlayers | hop := hfree
      · exact Or.inl (neededBank_eq_none hlayers)
      · cases hn : neededBank s t with
        | none => exact Or.inl rfl
        | some b => exact Or.inr ⟨b, rfl, bankBusy_of_no_op hop b⟩
    · have hneed : neededBank s t = some (bankOf (sectorOf (transactionPage t))) := by
        rw [neededBank_eq_ground hfall, groundPage_bank_of_cells hcells]
      refine ⟨fun hsame => ?_, fun hother => ?_⟩
      · exact exec_heldReadEvaluated_waits hheld (canServe_of_busy hneed ((bankBusy_iff hop).2 hsame.symm))
      · refine exec_heldReadEvaluated_serves hheld (canServe_iff.2 (Or.inr ⟨_, hneed, ?_⟩))
        rw [Bool.eq_false_iff, ne_eq, bankBusy_iff hop]
        exact Ne.symm hother
  · have hc : (canServe u t || neededBank u t == some b) = true := by
      obtain hn | hn | hc := hfree
      · rw [canServe_iff.2 (Or.inl hn), Bool.true_or]
      · rw [hn, beq_self_eq_true, Bool.or_true]
      · rw [canServe_iff.2 (Or.inr hc), Bool.true_or]
    rw [evaluateHeldRead_of_held hheld, if_pos hc, serveRead_eq]
  · have hc : (canServe u t || neededBank u t == some b) = false := by
      simp [canServe_of_busy hneed hbusy, hneed, hne]
    rw [evaluateHeldRead_of_held hheld, hc, if_neg (by simp)]
    cases Config.startTakenFirst u.freeIndex with
    | true => exact Or.inl rfl
    | false => exact Or.inr rfl
  · unfold evaluateHeldRead
    split
    · next t k w hp => exact absurd hp (hnone t k w)
    · rfl

end Sys2Proof.Machine
end

section
/-! PROOF. Reset: what each of the three leaves of every block, and that the state after reset has every law (R16, R40, R139, R159,
R161). -/

namespace Sys2Proof.Machine

set_option Elab.async false

theorem reset_lines (i : LineNo) : State.reset.lines[i] = Line.cleared := by simp [State.reset]

theorem reset_regions (n : Fin 8) : State.reset.regions[n] = Region.afterReset := by simp [State.reset]

/-- After reset every line is FREE, so a law about lines in another state asks for nothing. -/
theorem reset_line_free (i : LineNo) : State.reset.lines[i].state = .free := by rw [reset_lines]; rfl

theorem reset_line_not {i : LineNo} {st : LineState} (hst : st ≠ .free) : State.reset.lines[i].state ≠ st := by
  rw [reset_line_free]
  exact hst.symm

/-! ### The three resets -/

/-- A reset of any cause leaves every block at its reset values and records the cause. -/
theorem partReset_isResetBy (s : State) (cause : ResetCause) (left : PulseResidue) : (partReset s cause left).isResetBy cause := by
  have hlines : ∀ i : LineNo, (partReset s cause left).lines[i] = Line.cleared := reset_lines
  have hregions : ∀ n : Fin 8, (partReset s cause left).regions[n] = Region.afterReset := reset_regions
  refine ⟨rfl, rfl, rfl, rfl, rfl, fun i => ?_, rfl, rfl, rfl, hregions, rfl, rfl, rfl, rfl, rfl, rfl, rfl, rfl, rfl, rfl, rfl, rfl,
    rfl, rfl, rfl, rfl, rfl⟩
  rw [hlines]
  exact ⟨rfl, rfl, rfl, rfl, fun x => by simp [Line.cleared]⟩

/-- Settles O3: each reset is `partReset`, a fall of RESETn with the level set first; the two that may not be taken leave the state. -/
theorem resetsLeaveEveryBlockReset : Obligations.ResetsLeaveEveryBlockReset := by
  intro s left
  refine ⟨⟨_, rfl, partReset_isResetBy s _ left, rfl, rfl, rfl⟩, fun hlow => ?_, fun hdue => ?_, fun hlow => ?_, fun hdue => ?_⟩
  · have he : exec (.resetPin left) s = .next (partReset { s with resetnLow := true } .resetPin left) := by
      simp [exec, execResetPin, resetPinFalls, hlow]
    exact ⟨_, he, partReset_isResetBy _ _ left, rfl, rfl, rfl⟩
  · have he : exec (.linkCommandReset left) s = .next (partReset s .linkCommand left) := by
      simp [exec, execLinkCommandReset, takeDueReset, hdue]
    exact ⟨_, he, partReset_isResetBy s _ left, rfl, rfl, rfl⟩
  · simp [exec, execResetPin, resetPinFalls, hlow]
  · simp [exec, execLinkCommandReset, takeDueReset, hdue]

/-! ### The laws of the state after reset -/

theorem reset_logLaw : State.reset.logLaw := ⟨by decide, by decide, fun _ _ h => by cases h⟩

theorem reset_tablesLaw : State.reset.tablesLaw := by
  refine ⟨by unfold Settings.inRange; decide, fun n => ?_⟩
  rw [reset_regions]
  exact ⟨by decide, fun _ h => by cases h⟩

theorem reset_agesLaw : State.reset.agesLaw := fun i h => absurd h (reset_line_not (by decide))

theorem reset_linesLaw : State.reset.linesLaw := by
  refine ⟨List.nodup_nil, List.nodup_nil, fun i => ⟨?_, ?_, fun _ => reset_lines i, fun h => absurd (reset_line_free i) h⟩⟩
  · exact iff_of_false (by simp [State.reset]) (not_not_intro (reset_line_free i))
  · exact iff_of_false (by simp [State.reset]) (reset_line_not (by decide))

theorem reset_jobLaw : State.reset.jobLaw := by
  refine ⟨fun _ h => ?_, fun i h => ?_⟩
  · cases h
  · exact absurd h (reset_line_not (by decide))

theorem reset_pagesLaw : State.reset.pagesLaw := by
  refine ⟨fun i _ h => ?_, fun i _ h => ?_, fun _ _ _ h => ?_, fun i _ _ _ h => ?_⟩
  · exact absurd h (reset_line_not (by decide))
  · exact absurd h (reset_line_not (by decide))
  · cases h
  · exact absurd h (reset_line_not (by decide))

theorem reset_waitLaw : State.reset.waitLaw := fun _ _ _ h => by cases h

theorem reset_nothingPending : State.reset.nothingPending := ⟨rfl, rfl⟩

theorem reset_frontEndLaw : State.reset.frontEndLaw :=
  ⟨fun _ => ⟨reset_line_free, reset_nothingPending, rfl⟩, fun h => by simp [State.reset] at h, fun h => by cases h⟩

theorem reset_choiceLaw : State.reset.choiceLaw :=
  ⟨fun _ => Or.inr ⟨rfl, reset_nothingPending⟩, fun b h => by cases b <;> exact absurd rfl h⟩

theorem reset_linkLaw : State.reset.linkLaw := by
  simp [State.linkLaw, State.reset, Link.afterReset, Transmitter.quiet]

/-- Settles O52, law by law. -/
theorem resetHasEveryLaw : Obligations.ResetHasEveryLaw :=
  ⟨reset_cells_wf, reset_logLaw, reset_tablesLaw, reset_agesLaw, reset_linesLaw, reset_jobLaw, reset_pagesLaw, reset_waitLaw,
    reset_recordsLaw, reset_frontEndLaw, reset_choiceLaw, reset_linkLaw⟩

end Sys2Proof.Machine
end

section
/-! PROOF. The law of the lines and their two lists (R18 to R20): every operation on lines keeps it. -/

namespace Sys2Proof.Machine

set_option Elab.async false

/-! ### One line at a time -/

/-- What the law of the lines says of one line. -/
def State.lineLaw (s : State) (i : LineNo) : Prop :=
  (i ∈ s.ageList ↔ s.lines[i].state ≠ .free) ∧ (i ∈ s.commitQueue ↔ s.lines[i].state = .sealed) ∧
  (s.lines[i].state = .free → s.lines[i] = Line.cleared) ∧ (s.lines[i].state ≠ .free → s.lines[i].page.isSome = true)

/-- Two lists without a line twice, and every line as its own law says. -/
theorem linesLaw_iff {s : State} : s.linesLaw ↔ s.ageList.Nodup ∧ s.commitQueue.Nodup ∧ ∀ i, s.lineLaw i := Iff.rfl

/-- A change that leaves the other lines, and their places in the two lists, is judged by the lines it reaches. -/
theorem linesLaw_of_changed {s t : State} (h : s.linesLaw) (changed : LineNo → Prop) (ha : t.ageList.Nodup)
    (hq : t.commitQueue.Nodup) (hnew : ∀ k, changed k → t.lineLaw k)
    (hold : ∀ k : LineNo, ¬ changed k → t.lines[k] = s.lines[k] ∧ (k ∈ t.ageList ↔ k ∈ s.ageList) ∧
      (k ∈ t.commitQueue ↔ k ∈ s.commitQueue)) : t.linesLaw := by
  refine linesLaw_iff.2 ⟨ha, hq, fun k => ?_⟩
  by_cases hk : changed k
  · exact hnew k hk
  · obtain ⟨hl, hka, hkq⟩ := hold k hk
    unfold State.lineLaw
    rw [hl, hka, hkq]
    exact h.2.2 k

/-- The law of the lines looks at the lines and the two lists alone. -/
theorem linesLaw_of_frame {s t : State} (h : s.linesLaw) (hl : t.lines = s.lines := by simp)
    (ha : t.ageList = s.ageList := by simp) (hq : t.commitQueue = s.commitQueue := by simp) : t.linesLaw :=
  linesLaw_of_changed h (fun _ => False) (ha ▸ h.1) (hq ▸ h.2.1) (fun _ hk => hk.elim)
    fun _ _ => ⟨by rw [hl], by rw [ha], by rw [hq]⟩

theorem mem_ageList_iff {s : State} (h : s.linesLaw) {i : LineNo} : i ∈ s.ageList ↔ s.lines[i].state ≠ .free := (h.2.2 i).1

theorem mem_commitQueue_iff {s : State} (h : s.linesLaw) {i : LineNo} :
    i ∈ s.commitQueue ↔ s.lines[i].state = .sealed := (h.2.2 i).2.1

theorem page_isSome_of_not_free {s : State} (h : s.linesLaw) {i : LineNo} (hi : s.lines[i].state ≠ .free) :
    s.lines[i].page.isSome = true := (h.2.2 i).2.2.2 hi

/-- A line in use, whatever its state, with a page and in its place in the two lists. -/
theorem lineLaw_of_used {s : State} {i : LineNo} (hs : s.lines[i].state ≠ .free) (hp : s.lines[i].page.isSome = true)
    (ha : i ∈ s.ageList) (hq : i ∈ s.commitQueue ↔ s.lines[i].state = .sealed) : s.lineLaw i :=
  ⟨iff_of_true ha hs, hq, fun h => absurd h hs, fun _ => hp⟩

/-! ### Lists of lines -/

/-- A change of one line in use that keeps its state and page. -/
theorem updateLine_linesLaw {s : State} (h : s.linesLaw) {i : LineNo} (hi : s.lines[i].state ≠ .free) {f : Line → Line}
    (hf : ∀ l, (f l).state = l.state ∧ (f l).page = l.page) : (updateLine s i f).linesLaw := by
  have hline : (updateLine s i f).lines[i] = f s.lines[i] := by rw [updateLine_get, if_pos rfl]
  obtain ⟨hst, hpg⟩ := hf s.lines[i]
  refine linesLaw_of_changed h (· = i) h.1 h.2.1 ?_ fun k hk => ⟨by rw [updateLine_get, if_neg hk], Iff.rfl, Iff.rfl⟩
  rintro _ rfl
  refine lineLaw_of_used ?_ ?_ ((mem_ageList_iff h).2 hi) ?_
  · rwa [hline, hst]
  · rw [hline, hpg]
    exact page_isSome_of_not_free h hi
  · rw [hline, hst]
    exact mem_commitQueue_iff h

theorem openLine_linesLaw {s : State} (h : s.linesLaw) {i : LineNo} (hi : s.lines[i].state = .free) (p : PageNo)
    (w : List (Fin 64 × Byte)) : (openLine s i p w).linesLaw := by
  have ha : i ∉ s.ageList := fun hm => (mem_ageList_iff h).1 hm hi
  have hq : i ∉ s.commitQueue := fun hm => by
    rw [mem_commitQueue_iff h, hi] at hm
    cases hm
  refine linesLaw_of_changed h (· = i) ?_ (by simpa using h.2.1) ?_ fun k hk => ⟨?_, ?_, by simp⟩
  · rw [show (openLine s i p w).ageList = s.ageList ++ [i] from rfl, ← List.concat_eq_append]
    exact h.1.concat ha
  · rintro _ rfl
    refine lineLaw_of_used ?_ ?_ (by simp [openLine]) ?_ <;> rw [openLine_get, if_pos rfl]
    · simp
    · rfl
    · simpa using hq
  · rw [openLine_get, if_neg hk]
  · simp [openLine, hk]

theorem sealLine_linesLaw {s : State} (h : s.linesLaw) (i : LineNo) : (sealLine s i).linesLaw := by
  by_cases hi : s.lines[i].state = .open
  · have hq : i ∉ s.commitQueue := fun hm => by
      rw [mem_commitQueue_iff h, hi] at hm
      cases hm
    have hqueue : (sealLine s i).commitQueue = s.commitQueue ++ [i] := by rw [sealLine_commitQueue, if_pos hi]
    have hline : (sealLine s i).lines[i] = { s.lines[i] with state := .sealed } := by rw [sealLine_get, if_pos ⟨rfl, hi⟩]
    have hnf : s.lines[i].state ≠ .free := by simp [-Fin.getElem_fin, hi]
    refine linesLaw_of_changed h (· = i) (by simpa using h.1) ?_ ?_ fun k hk => ⟨?_, by simp, ?_⟩
    · rw [hqueue, ← List.concat_eq_append]
      exact h.2.1.concat hq
    · rintro _ rfl
      refine lineLaw_of_used ?_ ?_ (by simpa using (mem_ageList_iff h).2 hnf) ?_ <;> rw [hline]
      · simp
      · exact page_isSome_of_not_free h hnf
      · simp [hqueue]
    · rw [sealLine_get, if_neg fun hc => hk hc.1]
    · simp [hqueue, hk]
  · rw [sealLine, if_neg hi]
    exact h

/-- Retiring lines keeps the law of the lines (R37). -/
theorem freeLines_linesLaw {s : State} (h : s.linesLaw) (is : List LineNo) : (is.foldl freeLine s).linesLaw := by
  have ha := freeLines_ageList s is h.1
  have hq := freeLines_commitQueue s is h.2.1
  refine linesLaw_of_changed h (· ∈ is) (ha ▸ h.1.filter _) (hq ▸ h.2.1.filter _) (fun k hk => ?_) fun k hk => ⟨?_, ?_, ?_⟩
  · have hline : (is.foldl freeLine s).lines[k] = Line.cleared := by rw [freeLines_get, if_pos hk]
    refine ⟨?_, ?_, fun _ => hline, fun hs => ?_⟩
    · rw [hline, ha]
      simp [hk, Line.cleared]
    · rw [hline, hq]
      simp [hk, Line.cleared]
    · rw [hline] at hs
      exact absurd rfl hs
  · rw [freeLines_get, if_neg hk]
  · simp [ha, hk]
  · simp [hq, hk]

/-- Lines in use that become FAILED or COMMITTING leave the queue and keep their page and their place in the age list. -/
theorem linesLaw_of_taken {s t : State} (h : s.linesLaw) {is : List LineNo} (his : ∀ k ∈ is, s.lines[k].state ≠ .free)
    (hin : ∀ k : LineNo, k ∈ is → t.lines[k].state ≠ .free ∧ t.lines[k].state ≠ .sealed ∧ t.lines[k].page = s.lines[k].page)
    (hout : ∀ k : LineNo, k ∉ is → t.lines[k] = s.lines[k]) (ha : t.ageList = s.ageList)
    (hq : t.commitQueue = s.commitQueue.filter fun k => !is.contains k) : t.linesLaw := by
  refine linesLaw_of_changed h (· ∈ is) (ha ▸ h.1) (hq ▸ h.2.1.filter _) (fun k hk => ?_) fun k hk => ⟨hout k hk, ?_, ?_⟩
  · obtain ⟨hnf, hns, hpg⟩ := hin k hk
    refine lineLaw_of_used hnf ?_ (ha ▸ (mem_ageList_iff h).2 (his k hk)) (iff_of_false ?_ hns)
    · rw [hpg]
      exact page_isSome_of_not_free h (his k hk)
    · simp [hq, hk]
  · rw [ha]
  · simp [hq, hk]

/-- Failing lines in use keeps the law of the lines (R38). -/
theorem failLines_linesLaw {s : State} (h : s.linesLaw) {is : List LineNo} (his : ∀ k ∈ is, s.lines[k].state ≠ .free) :
    (is.foldl failLine s).linesLaw := by
  refine linesLaw_of_taken h his (fun k hk => ?_) (fun k hk => ?_) (by simp) (failLines_commitQueue s is h.2.1)
  · rw [failLines_get, if_pos hk]
    simp
  · rw [failLines_get, if_neg hk]

/-- Taking lines in use into a job keeps the law of the lines (R21, R71). -/
theorem takeLines_linesLaw {s : State} (h : s.linesLaw) {is : List LineNo} (his : ∀ k ∈ is, s.lines[k].state ≠ .free) :
    (is.foldl takeLine s).linesLaw := by
  refine linesLaw_of_taken h his (fun k hk => ?_) (fun k hk => ?_) (by simp) (takeLines_commitQueue s is h.2.1)
  · rw [takeLines_get, if_pos hk]
    simp
  · rw [takeLines_get, if_neg hk]

theorem mem_failedLinesOf {s : State} {p : PageNo} {k : LineNo} (h : k ∈ failedLinesOf s p) :
    s.lines[k].state = .failed := by
  have hk := (List.mem_filter.1 (List.mem_filter.1 h).1).2
  simpa [-Fin.getElem_fin] using hk

/-- The FAILED lines of a page return to the queue (R101). -/
theorem retryLines_linesLaw {s : State} (h : s.linesLaw) (p : PageNo) : (retryLines s p).linesLaw := by
  have hnf : ∀ k ∈ failedLinesOf s p, s.lines[k].state ≠ .free := fun k hk => by
    rw [mem_failedLinesOf hk]
    simp
  have hqueue : (retryLines s p).commitQueue = s.commitQueue ++ failedLinesOf s p := retryLinesFold_commitQueue s _
  have hget := retryLinesFold_get s (failedLinesOf s p)
  refine linesLaw_of_changed h (· ∈ failedLinesOf s p) (by simpa using h.1) ?_ (fun k hk => ?_)
    fun k hk => ⟨?_, by simp, ?_⟩
  · refine hqueue ▸ List.nodup_append.2 ⟨h.2.1, (h.1.filter _).filter _, ?_⟩
    rintro k hq _ hk rfl
    rw [mem_commitQueue_iff h, mem_failedLinesOf hk] at hq
    cases hq
  · refine lineLaw_of_used ?_ ?_ (by simpa using (mem_ageList_iff h).2 (hnf k hk)) ?_ <;>
      rw [retryLines, hget, if_pos hk]
    · simp
    · exact page_isSome_of_not_free h (hnf k hk)
    · exact iff_of_true (hqueue ▸ List.mem_append_right _ hk) rfl
  · rw [retryLines, hget, if_neg hk]
  · simp [hqueue, hk]

/-! ### Sealing and ageing -/

theorem sealLines_linesLaw {s : State} (h : s.linesLaw) (is : List LineNo) : (sealLines s is).linesLaw := by
  unfold sealLines
  induction is generalizing s with
  | nil => exact h
  | cons i is ih => exact ih (sealLine_linesLaw h i)

theorem sealAll_linesLaw {s : State} (h : s.linesLaw) : (sealAll s).linesLaw := sealLines_linesLaw h _

theorem sealIfFull_linesLaw {s : State} (h : s.linesLaw) (i : LineNo) : (sealIfFull s i).linesLaw := by
  unfold sealIfFull
  split
  · exact sealLine_linesLaw h i
  · exact h

theorem pressureSeal_linesLaw {s : State} (h : s.linesLaw) : (pressureSeal s).linesLaw := by
  unfold pressureSeal
  split
  · exact sealLine_linesLaw h _
  · exact h

theorem ageLine_linesLaw {s : State} (h : s.linesLaw) {i : LineNo} (hi : s.lines[i].state ≠ .free) :
    (ageLine s i).linesLaw := by
  have hu := updateLine_linesLaw h hi (f := fun l => { l with age := l.age + 1 }) fun _ => ⟨rfl, rfl⟩
  unfold ageLine
  dsimp only
  split
  · exact sealLine_linesLaw hu i
  · exact hu

/-- Ageing frees no line. -/
theorem ageLine_not_free {s : State} (i : LineNo) {k : LineNo} (hk : s.lines[k].state ≠ .free) :
    (ageLine s i).lines[k].state ≠ .free := by
  rw [ageLine_get]
  split
  · dsimp only
    split
    · simp
    · exact hk
  · exact hk

theorem ageLinesFold_linesLaw {s : State} (h : s.linesLaw) {is : List LineNo} (his : ∀ k ∈ is, s.lines[k].state ≠ .free) :
    (is.foldl ageLine s).linesLaw := by
  induction is generalizing s with
  | nil => exact h
  | cons i is ih =>
    exact ih (ageLine_linesLaw h (his i List.mem_cons_self))
      fun k hk => ageLine_not_free i (his k (List.mem_cons_of_mem _ hk))

theorem mem_linesByAge {s : State} {st : LineState} {k : LineNo} (h : k ∈ linesByAge s st) : s.lines[k].state = st := by
  have hk := (List.mem_filter.1 h).2
  simpa [-Fin.getElem_fin] using hk

theorem ageLines_linesLaw {s : State} (h : s.linesLaw) : (ageLines s).linesLaw :=
  ageLinesFold_linesLaw h fun k hk => by
    rw [mem_linesByAge hk]
    simp

/-! ### Writes -/

theorem sealLine_not_free {s : State} (i : LineNo) {k : LineNo} (hk : s.lines[k].state ≠ .free) :
    (sealLine s i).lines[k].state ≠ .free := by
  rw [sealLine_get]
  split
  · simp
  · exact hk

theorem sealIfFull_not_free {s : State} (i : LineNo) {k : LineNo} (hk : s.lines[k].state ≠ .free) :
    (sealIfFull s i).lines[k].state ≠ .free := by
  unfold sealIfFull
  split
  · exact sealLine_not_free i hk
  · exact hk

theorem refuse_linesLaw {s : State} (h : s.linesLaw) (t : Transaction) (r : RefusedReason) : (refuse s t r).linesLaw :=
  linesLaw_of_frame h

theorem acceptIntoLine_linesLaw {s : State} (h : s.linesLaw) {i : LineNo} (hi : s.lines[i].state ≠ .free) (t : Transaction)
    (k : AccessKind) : (acceptIntoLine s i t k).linesLaw := by
  unfold acceptIntoLine
  split
  · have hu := updateLine_linesLaw h hi (f := fun l => { l with through := true }) fun _ => ⟨rfl, rfl⟩
    exact linesLaw_of_frame (sealLine_linesLaw hu i) rfl rfl rfl
  · exact linesLaw_of_frame h

theorem mergeWrite_linesLaw {s : State} (h : s.linesLaw) {i : LineNo} (hi : s.lines[i].state ≠ .free) (t : Transaction)
    (k : AccessKind) : (mergeWrite s i t k).linesLaw := by
  have hu := updateLine_linesLaw h hi (f := fun l => { l with staged := putBytes l.staged (writesOf t) }) fun _ => ⟨rfl, rfl⟩
  refine acceptIntoLine_linesLaw (sealIfFull_linesLaw hu i) (sealIfFull_not_free i ?_) t k
  rwa [updateLine_get, if_pos rfl]

theorem openForWrite_linesLaw {s : State} (h : s.linesLaw) {i : LineNo} (hi : s.lines[i].state = .free) (t : Transaction)
    (k : AccessKind) : (openForWrite s i t k).linesLaw := by
  refine acceptIntoLine_linesLaw (openLine_linesLaw h hi _ _) ?_ t k
  rw [openLine_get, if_pos rfl]
  simp

theorem takeWrite_linesLaw {s : State} (h : s.linesLaw) (t : Transaction) (k : AccessKind) : (takeWrite s t k).linesLaw := by
  unfold takeWrite
  split
  · exact refuse_linesLaw h t _
  · split
    · next i hi =>
      refine mergeWrite_linesLaw h ?_ t k
      rw [(openLineOf_spec hi).1]
      simp
    · split
      · next i hi => exact openForWrite_linesLaw h (freeLineNo_spec hi).1 t k
      · exact linesLaw_of_frame (pressureSeal_linesLaw h)

theorem retakeHeldWrite_linesLaw {s : State} (h : s.linesLaw) : (retakeHeldWrite s).linesLaw := by
  unfold retakeHeldWrite
  split
  · split
    · exact h
    · next i hi =>
      split
      · exact refuse_linesLaw h _ _
      · split
        · exact refuse_linesLaw h _ _
        · exact openForWrite_linesLaw h (freeLineNo_spec hi).1 _ _
  · exact h

theorem continueChecks_linesLaw {s : State} (h : s.linesLaw) (t : Transaction) (k : AccessKind) :
    (continueChecks s t k).linesLaw := by
  unfold continueChecks
  split
  · exact linesLaw_of_frame h
  · split
    · exact linesLaw_of_frame h
    · split
      · exact refuse_linesLaw h t _
      · exact takeWrite_linesLaw h t k

theorem takeTransaction_linesLaw {s : State} (h : s.linesLaw) (t : Transaction) : (takeTransaction s t).linesLaw := by
  unfold takeTransaction
  split
  · exact refuse_linesLaw h t _
  · split
    · exact refuse_linesLaw h t _
    · split
      · exact refuse_linesLaw h t _
      · split
        · exact linesLaw_of_frame h
        · exact continueChecks_linesLaw h t _

theorem startHoldResume_linesLaw {s : State} (h : s.linesLaw) : (startHoldResume s).linesLaw := by
  unfold startHoldResume
  split
  · split
    · exact h
    · exact continueChecks_linesLaw h _ _
  · exact h

/-! ### Handing back, cascades, discarding -/

theorem answerThrough_linesLaw {s : State} (h : s.linesLaw) : (answerThrough s).linesLaw := by
  unfold answerThrough
  split
  · split
    · exact linesLaw_of_frame h
    · split
      · next i _ _ hi =>
        have hu := updateLine_linesLaw h (i := i) (by simp [-Fin.getElem_fin, hi]) (f := fun l => { l with through := false })
          fun _ => ⟨rfl, rfl⟩
        exact linesLaw_of_frame hu rfl rfl rfl
      · exact h
  · exact h

theorem committingIn_not_free {s : State} {is : List LineNo} {k : LineNo} (h : k ∈ committingIn s is) :
    s.lines[k].state ≠ .free := by
  have hk : s.lines[k].state = .committing := by simpa [-Fin.getElem_fin] using (List.mem_filter.1 h).2
  simp [-Fin.getElem_fin, hk]

theorem waitingLines_not_free {s : State} {hit : PageNo → Bool} {k : LineNo} (h : k ∈ waitingLines s hit) :
    s.lines[k].state ≠ .free := by
  intro e
  have hk := (List.mem_filter.1 h).2
  rw [e] at hk
  simp at hk

theorem handBackRetired_linesLaw {s : State} (h : s.linesLaw) (is : List LineNo) : (handBackRetired s is).linesLaw :=
  retakeHeldWrite_linesLaw (answerThrough_linesLaw (freeLines_linesLaw h _))

theorem handBackFailed_linesLaw {s : State} (h : s.linesLaw) (is : List LineNo) : (handBackFailed s is).linesLaw := by
  unfold handBackFailed
  rw [← List.foldl_append]
  refine answerThrough_linesLaw (failLines_linesLaw h fun k hk => ?_)
  obtain hk | hk := List.mem_append.1 hk
  · exact committingIn_not_free hk
  · exact waitingLines_not_free hk

theorem entryCascade_linesLaw {s : State} (h : s.linesLaw) (sec : SectorNo) : (entryCascade s sec).linesLaw :=
  answerThrough_linesLaw (failLines_linesLaw h fun _ hk => waitingLines_not_free hk)

theorem discardLines_linesLaw {s : State} (h : s.linesLaw) (p : PageNo) : (discardLines s p).linesLaw :=
  retakeHeldWrite_linesLaw (freeLines_linesLaw h _)

theorem fillLine_linesLaw {s : State} (h : s.linesLaw) (i : LineNo) (image : Page) : (fillLine s i image).linesLaw := by
  have hget := updateLine_get s i (f := fun l => if l.state = .committing then { l with staged := filledWith image } else l)
  by_cases hi : s.lines[i].state = .free
  · refine linesLaw_of_changed h (fun _ => False) h.1 h.2.1 (fun _ hk => hk.elim) fun k _ => ⟨?_, Iff.rfl, Iff.rfl⟩
    rw [fillLine, hget]
    split
    · next hk =>
      rw [hk, hi]
      rfl
    · rfl
  · refine updateLine_linesLaw h hi fun l => ?_
    split <;> exact ⟨rfl, rfl⟩

/-! ### The drain entry and the job choice -/

theorem drainEntry_linesLaw {s : State} (h : s.linesLaw) : (drainEntry s).linesLaw :=
  linesLaw_of_frame (sealAll_linesLaw h) (by simp [drainEntry]) (by simp) (by simp [drainEntry])

theorem enterDraining_linesLaw {s : State} (h : s.linesLaw) : (enterDraining s).linesLaw :=
  linesLaw_of_frame (drainEntry_linesLaw (s := { s with frontEnd := .draining }) (linesLaw_of_frame h))
    (by simp [enterDraining]) (by simp) (by simp [enterDraining])

theorem leaveStarting_linesLaw {s : State} (h : s.linesLaw) : (leaveStarting s).linesLaw := by
  unfold leaveStarting
  split
  · exact enterDraining_linesLaw h
  · exact linesLaw_of_frame h

end Sys2Proof.Machine
end

section
/-! PROOF. The law of the job choice (R43, R104): the operations before a choice leave nothing pending without a sector, and the choice, a
running job or a reset leaves nothing that could start waiting. -/

namespace Sys2Proof.Machine

set_option Elab.async false

/-! ### What the choice takes -/

/-- A bank whose record has a pending recovery job, on the sector it names. -/
theorem pendingChoice_eq_some {s : State} {b : Bank} {c : Choice} (h : pendingChoice s b = some c) :
    ∃ sec, (s.quarantine.get b).sector = some sec ∧
      ((s.quarantine.get b).pending = .restore ∧ c = .restore b sec ∨
        (s.quarantine.get b).pending = .close ∧ c = .close b sec) := by
  unfold pendingChoice at h
  split at h
  · next sec hs hp => exact ⟨sec, hs, Or.inl ⟨hp, (Option.some.inj h).symm⟩⟩
  · next sec hs hp => exact ⟨sec, hs, Or.inr ⟨hp, (Option.some.inj h).symm⟩⟩
  · cases h

theorem headChoice_eq_some {s : State} {c : Choice} (h : headChoice s = some c) :
    ∃ i rest p, s.commitQueue = i :: rest ∧ s.lines[i].page = some p ∧ c = .commit i p := by
  unfold headChoice at h
  split at h
  · next i rest hq =>
    obtain ⟨p, hp, rfl⟩ := Option.map_eq_some_iff.1 h
    exact ⟨i, rest, p, hq, hp, rfl⟩
  · cases h

/-- The order of the choice where it is made: bank 0, bank 1, the head of the queue (R43). -/
theorem nextJob_of_idle {s : State} (hj : s.job = none) (hs : s.started) :
    nextJob s = (pendingChoice s .bank0).or ((pendingChoice s .bank1).or (headChoice s)) := by
  have hidle : (s.job.isNone && (s.frontEnd == .ready || s.frontEnd == .draining || s.frontEnd == .drained)) = true := by
    obtain hf | hf | hf := hs <;> simp [hj, hf]
  rw [nextJob, if_pos hidle]
  cases pendingChoice s .bank0 <;> cases pendingChoice s .bank1 <;> rfl

/-- The choice is made with no job running and STARTING ended (R43, R45). -/
theorem idle_of_nextJob {s : State} {c : Choice} (h : nextJob s = some c) : s.job = none ∧ s.started := by
  unfold nextJob at h
  split at h
  · next hidle =>
    simp only [Bool.and_eq_true, Bool.or_eq_true, beq_iff_eq, Option.isNone_iff_eq_none] at hidle
    obtain ⟨hj, (hf | hf) | hf⟩ := hidle
    · exact ⟨hj, Or.inl hf⟩
    · exact ⟨hj, Or.inr (Or.inl hf)⟩
    · exact ⟨hj, Or.inr (Or.inr hf)⟩
  · cases h

/-- What the choice may take: a pending recovery job of a bank, or the head of the queue. -/
theorem nextJob_eq_some {s : State} {c : Choice} (h : nextJob s = some c) :
    (∃ b, pendingChoice s b = some c) ∨ headChoice s = some c := by
  obtain ⟨hj, hs⟩ := idle_of_nextJob h
  rw [nextJob_of_idle hj hs, Option.or_eq_some_iff, Option.or_eq_some_iff] at h
  obtain h | ⟨-, h | ⟨-, h⟩⟩ := h
  · exact Or.inl ⟨_, h⟩
  · exact Or.inl ⟨_, h⟩
  · exact Or.inr h

theorem chooseJob_eq {s : State} {c : Choice} (h : nextJob s = some c) : chooseJob s = startChoice s c := by
  simp [chooseJob, h]

theorem chooseJob_of_none {s : State} (h : nextJob s = none) : chooseJob s = s := by
  simp [chooseJob, h]

/-! ### The law, and what makes it true -/

/-- A pending recovery job stands in a record that names a sector (R104). -/
def State.pendingNamed (s : State) : Prop :=
  ∀ b, (s.quarantine.get b).pending ≠ .none → (s.quarantine.get b).sector.isSome = true

/-- What the job choice needs to leave nothing waiting: every queued line has a page and every pending job a sector. -/
def State.choosable (s : State) : Prop := s.linesLaw ∧ s.pendingNamed

/-- The law of the job choice with that of the lines. -/
def State.chosen (s : State) : Prop := s.linesLaw ∧ s.choiceLaw

theorem chosen_choosable {s : State} (h : s.chosen) : s.choosable := ⟨h.1, h.2.2⟩

theorem pendingNamed_of_frame {s t : State} (h : s.pendingNamed) (hq : t.quarantine = s.quarantine := by simp) :
    t.pendingNamed := by
  unfold State.pendingNamed
  rwa [hq]

theorem choosable_of_frame {s t : State} (h : s.choosable) (hl : t.lines = s.lines := by simp)
    (ha : t.ageList = s.ageList := by simp) (hc : t.commitQueue = s.commitQueue := by simp)
    (hq : t.quarantine = s.quarantine := by simp) : t.choosable :=
  ⟨linesLaw_of_frame h.1 hl ha hc, pendingNamed_of_frame h.2 hq⟩

/-- An operation on lines leaves the records. -/
theorem choosable_of_lines {s t : State} (h : s.choosable) (hl : t.linesLaw) (hq : t.quarantine = s.quarantine := by simp) :
    t.choosable := ⟨hl, pendingNamed_of_frame h.2 hq⟩

/-- A record replaced by one whose pending job, if any, has a sector. -/
theorem choosable_set_quarantine {s : State} (h : s.choosable) {b : Bank} {r : QuarantineRecord}
    (hr : r.pending ≠ .none → r.sector.isSome = true) : State.choosable { s with quarantine := s.quarantine.set b r } := by
  refine ⟨linesLaw_of_frame h.1, fun b' hp => ?_⟩
  dsimp only at hp ⊢
  rw [PerBank.get_set] at hp ⊢
  by_cases hb : b' = b
  · rw [if_pos hb] at hp ⊢
    exact hr hp
  · rw [if_neg hb] at hp ⊢
    exact h.2 b' hp

theorem setQuarantine_choosable {s : State} (h : s.choosable) (sec : SectorNo) (g : Ground) :
    (setQuarantine s sec g).choosable := choosable_set_quarantine h fun hp => absurd rfl hp

theorem clearQuarantine_choosable {s : State} (h : s.choosable) (sec : SectorNo) : (clearQuarantine s sec).choosable :=
  choosable_set_quarantine h fun hp => absurd rfl hp

/-- With a job running nothing waits for the choice. -/
theorem chosen_of_job {s : State} (h : s.choosable) (hj : s.job.isSome = true) : s.chosen := ⟨h.1, fun _ => Or.inl hj, h.2⟩

/-- In reset and in STARTING no choice is made. -/
theorem chosen_of_not_started {s : State} (h : s.choosable) (hs : ¬ s.started) : s.chosen := ⟨h.1, fun he => absurd he hs, h.2⟩

/-- Where the choice takes nothing there is nothing to take. -/
theorem nothingToStart_of_none {s : State} (h : s.choosable) (hj : s.job = none) (hs : s.started) (hn : nextJob s = none) :
    s.commitQueue = [] ∧ s.nothingPending := by
  obtain ⟨hl, hp⟩ := h
  rw [nextJob_of_idle hj hs, Option.or_eq_none_iff, Option.or_eq_none_iff] at hn
  obtain ⟨h0, h1, hh⟩ := hn
  have hbank : ∀ b, pendingChoice s b = none → (s.quarantine.get b).pending = .none := by
    intro b hb
    by_contra hne
    obtain ⟨sec, hsec⟩ := Option.isSome_iff_exists.1 (hp b hne)
    unfold pendingChoice at hb
    cases hpen : (s.quarantine.get b).pending <;> simp_all
  refine ⟨?_, hbank .bank0 h0, hbank .bank1 h1⟩
  cases hq : s.commitQueue with
  | nil => rfl
  | cons i rest =>
    have hsealed : s.lines[i].state = .sealed := (mem_commitQueue_iff hl).1 (hq ▸ List.mem_cons_self)
    have hpage := page_isSome_of_not_free hl (i := i) (by simp [-Fin.getElem_fin, hsealed])
    obtain ⟨p, hpg⟩ := Option.isSome_iff_exists.1 hpage
    simp only [headChoice, hq, hpg] at hh
    cases hh

theorem startCommit_linesLaw {s : State} (h : s.linesLaw) {i : LineNo} (hi : i ∈ s.commitQueue) (p : PageNo) :
    (startCommit s i p).linesLaw := by
  have hsealed := (mem_commitQueue_iff h).1 hi
  have ht : ([i].foldl takeLine s).linesLaw := takeLines_linesLaw h fun k hk => by
    rw [List.mem_singleton.1 hk, hsealed]
    simp
  exact linesLaw_of_frame ht rfl rfl rfl

theorem startChoice_job (s : State) (c : Choice) : (startChoice s c).job.isSome = true := by
  cases c with
  | restore b sec =>
    unfold startChoice startRestore
    dsimp only
    split <;> rfl
  | close b sec => rfl
  | commit i p => rfl

/-- The job that the choice takes starts with the lines in order. -/
theorem startChoice_linesLaw {s : State} (h : s.linesLaw) {c : Choice} (hc : nextJob s = some c) :
    (startChoice s c).linesLaw := by
  obtain ⟨b, hb⟩ | hh := nextJob_eq_some hc
  · obtain ⟨sec, -, ⟨-, rfl⟩ | ⟨-, rfl⟩⟩ := pendingChoice_eq_some hb
    · exact linesLaw_of_frame h (by simp [startChoice]) (by simp) (by simp [startChoice])
    · exact linesLaw_of_frame h (by simp [startChoice]) (by simp) (by simp [startChoice])
  · obtain ⟨i, rest, p, hq, -, rfl⟩ := headChoice_eq_some hh
    exact startCommit_linesLaw h (hq ▸ List.mem_cons_self) p

theorem startChoice_chosen {s : State} (h : s.choosable) {c : Choice} (hc : nextJob s = some c) : (startChoice s c).chosen :=
  chosen_of_job (choosable_of_lines h (startChoice_linesLaw h.1 hc)) (startChoice_job s c)

/-- After the job choice nothing that could start is left waiting (R43). -/
theorem chooseJob_chosen {s : State} (h : s.choosable) : (chooseJob s).chosen := by
  cases hc : nextJob s with
  | some c => exact chooseJob_eq hc ▸ startChoice_chosen h hc
  | none =>
    rw [chooseJob_of_none hc]
    by_cases hj : s.job = none
    · exact ⟨h.1, fun hs => Or.inr (nothingToStart_of_none h hj hs hc), h.2⟩
    · exact chosen_of_job h (Option.isSome_iff_ne_none.2 hj)

/-- A step that touches none of what the law looks at, and does not end STARTING, keeps it. -/
theorem chosen_of_frame {s t : State} (h : s.chosen) (hl : t.lines = s.lines := by simp) (ha : t.ageList = s.ageList := by simp)
    (hc : t.commitQueue = s.commitQueue := by simp) (hq : t.quarantine = s.quarantine := by simp)
    (hj : t.job = s.job := by simp) (hf : t.started → s.started := by simp [State.started]) : t.chosen := by
  obtain ⟨hlines, hwait, hnamed⟩ := h
  refine ⟨linesLaw_of_frame hlines hl ha hc, fun hs => ?_, pendingNamed_of_frame hnamed hq⟩
  have hnothing := hwait (hf hs)
  unfold State.nothingPending at hnothing ⊢
  rwa [hj, hc, hq]

/-! ### The job's end, the drain test and the end of start-up -/

theorem drainTest_chosen {s : State} (h : s.chosen) : (drainTest s).chosen := by
  refine chosen_of_frame h (hf := ?_)
  unfold drainTest
  split
  · next hd => exact fun _ => Or.inr (Or.inl hd.1)
  · exact id

theorem flushTest_chosen {s : State} (h : s.chosen) : (flushTest s).chosen := chosen_of_frame h

theorem endJob_chosen {s : State} (h : s.choosable) : (endJob s).chosen :=
  flushTest_chosen (drainTest_chosen (chooseJob_chosen (choosable_of_frame h)))

theorem endStartup_chosen {s : State} (h : s.choosable) : (endStartup s).chosen := by
  have hl : (leaveStarting { s with scan := .off }).linesLaw := leaveStarting_linesLaw (linesLaw_of_frame h.1)
  refine chooseJob_chosen (choosable_of_lines h (startHoldResume_linesLaw ?_))
  exact linesLaw_of_frame hl

/-! ### The start-up scan -/

theorem startReplay_chosen {s : State} (h : s.choosable) (j : Journal) (sec : SectorNo) : (startReplay s j sec).chosen :=
  chosen_of_job (choosable_of_frame h) rfl

theorem scanFourthStep_chosen {s : State} (h : s.choosable) : (scanFourthStep s).chosen := by
  unfold scanFourthStep
  split
  · exact startReplay_chosen h _ _
  · exact endStartup_chosen (choosable_of_frame h)

theorem scanThirdStep_chosen {s : State} (h : s.choosable) : (scanThirdStep s).chosen := by
  unfold scanThirdStep
  split
  · exact startReplay_chosen h _ _
  · exact scanFourthStep_chosen h

theorem not_started_of_starting {s : State} (h : s.frontEnd = .starting) : ¬ s.started := by simp [State.started, h]

theorem classifyAs_chosen {s : State} (h : s.choosable) (hs : s.frontEnd = .starting) (j : Journal) (v : JournalState) :
    (classifyAs s j v).chosen := by
  cases j with
  | j0 => exact chosen_of_not_started (choosable_of_frame h rfl rfl rfl rfl) (not_started_of_starting hs)
  | j1 => exact scanThirdStep_chosen (choosable_of_frame h)

theorem classifyCorrupt_chosen {s : State} (h : s.choosable) (hs : s.frontEnd = .starting) (j : Journal)
    (target : BitVec 16) : (classifyCorrupt s j target).chosen :=
  classifyAs_chosen (s := appendFault s (.journalCorrupt j target)) (choosable_of_frame h) hs j _

theorem scanReadCopy_chosen {s : State} (h : s.choosable) (hs : s.frontEnd = .starting) (j : Journal) (target : SectorNo)
    (check : BitVec 16) (k : Fin 16) (sum : BitVec 16) : (scanReadCopy s j target check k sum).chosen :=
  chosen_of_not_started (choosable_of_frame h rfl rfl rfl rfl) (not_started_of_starting hs)

theorem scanHeader_chosen {s : State} (h : s.choosable) (hs : s.frontEnd = .starting) (j : Journal) (header : Page) :
    (scanHeader s j header).chosen := by
  unfold scanHeader
  split
  · exact classifyAs_chosen h hs j _
  · split
    · exact classifyAs_chosen h hs j _
    · split
      · exact classifyCorrupt_chosen h hs j _
      · exact scanReadCopy_chosen h hs _ _ _ _ _

theorem scanCopy_chosen {s : State} (h : s.choosable) (hs : s.frontEnd = .starting) (j : Journal) (target : SectorNo)
    (check : BitVec 16) (k : Fin 16) (sum : BitVec 16) (page : Page) : (scanCopy s j target check k sum page).chosen := by
  unfold scanCopy
  split
  · exact scanReadCopy_chosen h hs _ _ _ _ _
  · split
    · exact classifyAs_chosen h hs j _
    · exact classifyCorrupt_chosen h hs j _

theorem scanBlank_chosen {s : State} (h : s.chosen) (blank : Bool) : (scanBlank s blank).chosen := by
  have hc := chosen_choosable h
  unfold scanBlank
  split
  · next j hs _ =>
    split
    · exact classifyAs_chosen hc hs j _
    · exact chosen_of_not_started (choosable_of_frame hc rfl rfl rfl rfl) (not_started_of_starting hs)
  · exact h

theorem scanRead_chosen {s : State} (h : s.chosen) (page : Page) : (scanRead s page).chosen := by
  have hc := chosen_choosable h
  unfold scanRead
  split
  · next hs _ => exact scanHeader_chosen hc hs _ _
  · next hs _ => exact scanCopy_chosen hc hs _ _ _ _ _ _
  · exact h

/-! ### The ends of jobs -/

theorem endReplay_chosen {s : State} (h : s.choosable) : (endReplay s).chosen := by
  unfold endReplay
  dsimp only
  split
  · exact scanFourthStep_chosen (choosable_of_frame h)
  · exact endStartup_chosen (choosable_of_frame h)

theorem handBackFailed_choosable {s : State} (h : s.choosable) (is : List LineNo) : (handBackFailed s is).choosable :=
  choosable_of_lines h (handBackFailed_linesLaw h.1 is)

theorem handBackRetired_choosable {s : State} (h : s.choosable) (is : List LineNo) : (handBackRetired s is).choosable :=
  choosable_of_lines h (handBackRetired_linesLaw h.1 is)

theorem entryCascade_choosable {s : State} (h : s.choosable) (sec : SectorNo) : (entryCascade s sec).choosable :=
  choosable_of_lines h (entryCascade_linesLaw h.1 sec)

theorem appendFault_choosable {s : State} (h : s.choosable) (k : FaultKind) : (appendFault s k).choosable :=
  choosable_of_frame h

theorem setJournal_choosable {s : State} (h : s.choosable) (j : Journal) (v : JournalState) : (setJournal s j v).choosable :=
  choosable_of_frame h

theorem commitSucceeds_chosen {s : State} (h : s.choosable) (j : Job) : (commitSucceeds s j).chosen :=
  endJob_chosen (handBackRetired_choosable h _)

theorem commitFails_chosen {s : State} (h : s.choosable) (j : Job) (page : PageNo) (cause : LoopFailure) (pulses : Nat) :
    (commitFails s j page cause pulses).chosen :=
  endJob_chosen (appendFault_choosable (handBackFailed_choosable h _) _)

theorem journalEraseFails_chosen {s : State} (h : s.choosable) (j : Job) : (journalEraseFails s j).chosen :=
  endJob_chosen (appendFault_choosable (handBackFailed_choosable h _) _)

theorem journalIsHeld_chosen {s : State} (h : s.choosable) (j : Job) (page : PageNo) : (journalIsHeld s j page).chosen :=
  endJob_chosen (appendFault_choosable (handBackFailed_choosable h _) _)

theorem copyStepFails_chosen {s : State} (h : s.choosable) (j : Job) (step : FailedStep) (after : JournalState) :
    (copyStepFails s j step after).chosen :=
  endJob_chosen (setJournal_choosable (appendFault_choosable (handBackFailed_choosable h _) _) _ _)

theorem rewriteTargetFails_chosen {s : State} (h : s.choosable) (j : Job) (step : FaultStep) (pulses : Nat) :
    (rewriteTargetFails s j step pulses).chosen :=
  endJob_chosen (appendFault_choosable
    (entryCascade_choosable (handBackRetired_choosable (setQuarantine_choosable h j.sector .copy) _) _) _)

theorem rewriteCloseFails_chosen {s : State} (h : s.choosable) (j : Job) (pulses : Nat) :
    (rewriteCloseFails s j pulses).chosen :=
  endJob_chosen (appendFault_choosable (entryCascade_choosable (setQuarantine_choosable h j.sector .cells) _) _)

theorem targetFails_chosen {s : State} (h : s.choosable) (j : Job) (step : FaultStep) (pulses : Nat) :
    (targetFails s j step pulses).chosen := by
  have hq := setQuarantine_choosable h j.sector .copy
  unfold targetFails recoveryTargetFails
  split
  · exact rewriteTargetFails_chosen h j step pulses
  · split
    · exact endReplay_chosen (choosable_of_frame hq)
    · exact endJob_chosen (choosable_of_frame hq)

theorem closeStepSucceeds_chosen {s : State} (h : s.choosable) (j : Job) (after : JournalState) :
    (closeStepSucceeds s j after).chosen := by
  have hc : (clearQuarantine (setJournal s (journalFor j.sector) after) j.sector).choosable :=
    clearQuarantine_choosable (choosable_of_frame h) j.sector
  unfold closeStepSucceeds
  dsimp only
  split
  · exact endReplay_chosen (choosable_of_frame hc)
  · exact endJob_chosen (choosable_of_frame hc)
  · exact endJob_chosen hc

theorem closeStepFails_chosen {s : State} (h : s.choosable) (j : Job) (pulses : Nat) : (closeStepFails s j pulses).chosen := by
  have hq := setQuarantine_choosable h j.sector .cells
  unfold closeStepFails
  split
  · exact endReplay_chosen (choosable_of_frame hq)
  · exact endJob_chosen (choosable_of_frame hq)

/-! ### The steps of jobs -/

/-- A job's step that leaves the lines and the records, the job running on. -/
theorem chosen_of_running {s t : State} (h : s.choosable) (hj : t.job.isSome = true := by rfl)
    (hl : t.lines = s.lines := by simp) (ha : t.ageList = s.ageList := by simp) (hc : t.commitQueue = s.commitQueue := by simp)
    (hq : t.quarantine = s.quarantine := by simp) : t.chosen :=
  chosen_of_job (choosable_of_frame h hl ha hc hq) hj

theorem journalCheck_chosen {s : State} (h : s.choosable) (j : Job) (page : PageNo) : (journalCheck s j page).chosen := by
  unfold journalCheck
  split
  · exact chosen_of_running h
  · exact chosen_of_running h
  · split
    · exact chosen_of_running h
    · exact journalIsHeld_chosen h j page
  · exact chosen_of_running h

theorem copyFrom_chosen {s : State} (h : s.choosable) (j : Job) (img : Image) (k : Nat) : (copyFrom s j img k).chosen := by
  refine chosen_of_running h (hj := ?_)
  unfold copyFrom
  split <;> rfl

theorem linesToAbsorb_not_free {s : State} (h : s.linesLaw) {sec : SectorNo} {k : LineNo} (hk : k ∈ linesToAbsorb s sec) :
    s.lines[k].state ≠ .free := by
  rw [(mem_commitQueue_iff h).1 (List.mem_filter.1 hk).1]
  simp

theorem merge_chosen {s : State} (h : s.choosable) (j : Job) (img : Image) : (merge s j img).chosen := by
  have ht : ((linesToAbsorb s j.sector).foldl takeLine s).choosable :=
    choosable_of_lines h (takeLines_linesLaw h.1 fun _ hk => linesToAbsorb_not_free h.1 hk)
  exact copyFrom_chosen (choosable_of_frame ht) _ _ _

theorem loadNext_chosen {s : State} (h : s.choosable) (hj : s.job.isSome = true) (j : Job) (k : Fin 16) (page : Page) :
    (loadNext s j k page).chosen := by
  unfold loadNext
  split
  · split
    · exact chosen_of_running h
    · exact merge_chosen h j _
  · exact chosen_of_job h hj

theorem loadCopyNext_chosen {s : State} (h : s.choosable) (hj : s.job.isSome = true) (j : Job) (k : Fin 16) (page : Page) :
    (loadCopyNext s j k page).chosen := by
  refine chosen_of_running h (hj := ?_)
  unfold loadCopyNext
  split
  · split <;> rfl
  · exact hj

theorem targetProgrammed_chosen {s : State} (h : s.choosable) (j : Job) : (targetProgrammed s j).chosen := by
  unfold targetProgrammed
  split
  · exact chosen_of_running (handBackRetired_choosable h (jobLines j)) (hl := rfl) (ha := rfl) (hc := rfl) (hq := rfl)
  · exact chosen_of_running h

theorem programFrom_chosen {s : State} (h : s.choosable) (hj : s.job.isSome = true) (j : Job) (k : Nat) :
    (programFrom s j k).chosen := by
  unfold programFrom
  split
  · split
    · exact chosen_of_running h
    · exact targetProgrammed_chosen h j
  · exact chosen_of_job h hj

theorem closeHeaderRead_chosen {s : State} (h : s.choosable) (j : Job) (header : Page) : (closeHeaderRead s j header).chosen := by
  unfold closeHeaderRead
  split
  · exact closeStepSucceeds_chosen h j _
  · exact chosen_of_running h

theorem programSucceeds_chosen {s : State} (h : s.choosable) (hj : s.job.isSome = true) (j : Job) :
    (programSucceeds s j).chosen := by
  unfold programSucceeds
  split
  · exact commitSucceeds_chosen h j
  · split
    · exact copyFrom_chosen h j _ _
    · exact chosen_of_job h hj
  · exact chosen_of_running h
  · exact chosen_of_running h
  · exact programFrom_chosen h hj j _
  · split
    · exact endJob_chosen (choosable_of_frame h)
    · exact closeStepSucceeds_chosen h j _
  · exact chosen_of_job h hj

theorem programFails_chosen {s : State} (h : s.choosable) (hj : s.job.isSome = true) (j : Job) (cause : LoopFailure)
    (pulses : Nat) : (programFails s j cause pulses).chosen := by
  unfold programFails
  split
  · split
    · exact commitFails_chosen h j _ cause pulses
    · exact chosen_of_job h hj
  · exact copyStepFails_chosen h j _ _
  · exact copyStepFails_chosen h j _ _
  · exact chosen_of_running h
  · exact targetFails_chosen h j _ pulses
  · exact chosen_of_running h
  · exact chosen_of_job h hj

theorem eraseSucceeds_chosen {s : State} (h : s.choosable) (hj : s.job.isSome = true) (j : Job) :
    (eraseSucceeds s j).chosen := by
  unfold eraseSucceeds
  split
  · exact chosen_of_running h
  · exact copyStepFails_chosen h j _ _
  · exact programFrom_chosen h hj _ _
  · split
    · exact endJob_chosen (choosable_of_frame h)
    · exact closeStepSucceeds_chosen h j _
  · exact chosen_of_job h hj

theorem eraseFails_chosen {s : State} (h : s.choosable) (hj : s.job.isSome = true) (j : Job) (pulses : Nat) :
    (eraseFails s j pulses).chosen := by
  unfold eraseFails
  split
  · exact journalEraseFails_chosen h j
  · exact copyStepFails_chosen h j _ _
  · exact targetFails_chosen h j _ pulses
  · split
    · exact rewriteCloseFails_chosen h j pulses
    · exact closeStepFails_chosen h j pulses
  · exact chosen_of_job h hj

theorem preReadDone_chosen {s : State} (h : s.choosable) (hj : s.job.isSome = true) (j : Job) (page : Page) :
    (preReadDone s j page).chosen := by
  unfold preReadDone
  split
  · have hf : ∀ i image, (fillLine s i image).choosable := fun i image => choosable_of_lines h (fillLine_linesLaw h.1 i image)
    dsimp only
    split
    · exact commitSucceeds_chosen (hf _ _) j
    · split
      · exact journalCheck_chosen (hf _ _) _ _
      · exact chosen_of_running (hf _ _) (hl := rfl)
  · exact chosen_of_job h hj

/-! ### Completions -/

theorem verifyDone_chosen {s : State} (h : s.choosable) (hj : s.job.isSome = true) (j : Job) (cp : CellPage) (image : Page)
    (pulses : Nat) (read : Page) : (verifyDone s j cp image pulses read).chosen := by
  unfold verifyDone
  split
  · exact programSucceeds_chosen h hj _
  · exact chosen_of_running h
  · exact programFails_chosen h hj _ _ _

theorem jobReads_chosen {s : State} (h : s.choosable) (hj : s.job.isSome = true) (j : Job) (page : Page) :
    (jobReads s j page).chosen := by
  unfold jobReads
  split
  · exact verifyDone_chosen h hj j _ _ _ _
  · exact chosen_of_job h hj
  · split
    · exact preReadDone_chosen h hj j page
    · exact loadNext_chosen h hj j _ page
    · exact loadCopyNext_chosen h hj j _ page
    · exact closeHeaderRead_chosen h j page
    · exact chosen_of_job h hj

theorem jobBlankCheck_chosen {s : State} (h : s.choosable) (hj : s.job.isSome = true) (j : Job) (blank : Bool) :
    (jobBlankCheck s j blank).chosen := by
  unfold jobBlankCheck
  split
  · split
    · exact eraseSucceeds_chosen h hj _
    · split
      · exact chosen_of_running h
      · exact eraseFails_chosen h hj _ _
  · exact chosen_of_job h hj

theorem removeOp_chosen {s : State} (h : s.chosen) : (removeOp s).chosen := chosen_of_frame h

theorem readPageDelivered_chosen {s : State} (h : s.chosen) (cp : CellPage) : (readPageDelivered s cp).chosen := by
  have hr := removeOp_chosen h
  unfold readPageDelivered
  split
  · next j hj => exact jobReads_chosen (chosen_choosable hr) (Option.isSome_of_eq_some hj) _ _
  · exact scanRead_chosen hr _

theorem blankCheckDelivered_chosen {s : State} (h : s.chosen) (g : Target) : (blankCheckDelivered s g).chosen := by
  have hr := removeOp_chosen h
  unfold blankCheckDelivered
  split
  · next j hj => exact jobBlankCheck_chosen (chosen_choosable hr) (Option.isSome_of_eq_some hj) _ _
  · exact scanBlank_chosen hr _

theorem evaluateHeldRead_chosen {s : State} (h : s.chosen) (b : Bank) : (evaluateHeldRead b s).chosen := chosen_of_frame h

theorem readPageCompletes_chosen {s : State} (h : s.chosen) : (readPageCompletes s).chosen := by
  unfold readPageCompletes
  split
  · exact evaluateHeldRead_chosen (readPageDelivered_chosen h _) _
  · exact h

theorem blankCheckCompletes_chosen {s : State} (h : s.chosen) : (blankCheckCompletes s).chosen := by
  unfold blankCheckCompletes
  split
  · exact evaluateHeldRead_chosen (blankCheckDelivered_chosen h _) _
  · exact h

end Sys2Proof.Machine
end

section
/-! PROOF. Every step keeps the law of the job choice: what seals or returns a line, and what sets a pending job, ends in the choice. -/

namespace Sys2Proof.Machine

set_option Elab.async false

/-! ### The port and front-end control -/

theorem takeNextTransaction_chosen {s : State} (h : s.chosen) : (takeNextTransaction s).chosen := by
  unfold takeNextTransaction
  split
  · next t rest _ _ =>
    split
    · exact h
    · have hs : State.choosable { s with bus := rest, portAnswer := none } := choosable_of_frame (chosen_choosable h)
      exact chooseJob_chosen (choosable_of_lines hs (takeTransaction_linesLaw hs.1 t))
  · exact h

theorem startHoldResume_choosable {s : State} (h : s.choosable) : (startHoldResume s).choosable :=
  choosable_of_lines h (startHoldResume_linesLaw h.1)

theorem retakeHeldWrite_choosable {s : State} (h : s.choosable) : (retakeHeldWrite s).choosable :=
  choosable_of_lines h (retakeHeldWrite_linesLaw h.1)

theorem answerThrough_chosen {s : State} (h : s.chosen) : (answerThrough s).chosen := by
  obtain ⟨hl, hw, hn⟩ := h
  refine ⟨answerThrough_linesLaw hl, ?_, pendingNamed_of_frame hn⟩
  simpa [State.nothingPending] using hw

theorem holdExpires_chosen {s : State} (h : s.chosen) : (holdExpires s).chosen := chosen_of_frame h

theorem ageTimerExpires_chosen {s : State} (h : s.chosen) : (ageTimerExpires s).chosen := by
  unfold ageTimerExpires
  split
  · have hc := chosen_choosable h
    have ha : (ageLines s).choosable := choosable_of_lines hc (ageLines_linesLaw hc.1)
    exact chooseJob_chosen (s := loadAgeTimer (ageLines s)) (choosable_of_frame ha)
  · exact h

theorem pwarnRises_chosen {s : State} (h : s.chosen) : (pwarnRises s).chosen := by
  unfold pwarnRises
  split
  · exact chosen_of_frame h
  · have hs : State.choosable { s with pwarn := true, pwarnNoted := true } := choosable_of_frame (chosen_choosable h)
    exact chooseJob_chosen (choosable_of_lines hs (enterDraining_linesLaw hs.1))
  · exact chosen_of_frame h

/-- The return to READY finds nothing waiting, as DRAINING and DRAINED left it (R149). -/
theorem pwarnFalls_chosen {s : State} (h : s.chosen) : (pwarnFalls s).chosen := by
  unfold pwarnFalls
  split
  · exact chosen_of_frame h
  · next hf => exact chosen_of_frame h (hf := fun _ => Or.inr (Or.inl hf))
  · next hf => exact chosen_of_frame h (hf := fun _ => Or.inr (Or.inr hf))
  · exact chosen_of_frame h

theorem releaseReset_chosen {s : State} (h : s.chosen) : (releaseReset s).chosen := by
  unfold releaseReset
  split
  · refine takeNextTransaction_chosen (chosen_of_not_started ?_ (not_started_of_starting rfl))
    exact choosable_of_frame (chosen_choosable h) rfl rfl rfl rfl
  · exact h

theorem partReset_chosen (s : State) (cause : ResetCause) (left : PulseResidue) : (partReset s cause left).chosen :=
  chosen_of_frame ⟨reset_linesLaw, reset_choiceLaw⟩ rfl rfl rfl rfl rfl id

/-! ### The starts of jobs -/

theorem chooseIf_chosen {s : State} (h : s.chosen) (test : Choice → Bool) : (chooseIf s test).chosen := by
  unfold chooseIf
  split
  · next c hc =>
    split
    · exact startChoice_chosen (chosen_choosable h) hc
    · exact h
  · exact h

theorem replayDue_chosen {s : State} (h : s.chosen) : (replayDue s).chosen := by
  unfold replayDue
  split
  · split
    · exact startReplay_chosen (chosen_choosable h) _ _
    · exact h
  · exact h

/-! ### Requests -/

theorem answerStatus_chosen {s : State} (h : s.chosen) (st : Status) (tag : Byte) : (answerStatus s st tag).chosen :=
  chosen_of_frame h

theorem runFlush_chosen {s : State} (h : s.chosen) (tag wait : Byte) : (runFlush s tag wait).chosen := by
  have hc := chosen_choosable h
  have hs : (chooseJob (sealAll s)).chosen := chooseJob_chosen (choosable_of_lines hc (sealAll_linesLaw hc.1))
  unfold runFlush
  split
  · exact answerStatus_chosen h _ tag
  · split
    · exact answerStatus_chosen h _ tag
    · split
      · exact answerStatus_chosen hs _ tag
      · exact chosen_of_frame hs (by simp) (by simp) (by simp) (by simp) (by simp)

theorem runRetryPage_chosen {s : State} (h : s.chosen) (tag : Byte) (page : BitVec 16) : (runRetryPage s tag page).chosen := by
  have hc := chosen_choosable h
  have hr : ∀ p, (chooseJob (retryLines s p)).chosen := fun p =>
    chooseJob_chosen (choosable_of_lines hc (retryLines_linesLaw hc.1 p))
  unfold runRetryPage
  repeat' split
  · exact answerStatus_chosen h _ tag
  · exact answerStatus_chosen h _ tag
  · exact answerStatus_chosen h _ tag
  · exact answerStatus_chosen (hr _) _ tag

theorem runDiscardPage_chosen {s : State} (h : s.chosen) (tag : Byte) (page : BitVec 16) :
    (runDiscardPage s tag page).chosen := by
  have hc := chosen_choosable h
  have hd : ∀ p, (chooseJob (discardLines s p)).chosen := fun p =>
    chooseJob_chosen (choosable_of_lines hc (discardLines_linesLaw hc.1 p))
  unfold runDiscardPage
  repeat' split
  · exact answerStatus_chosen h _ tag
  · exact answerStatus_chosen h _ tag
  · exact answerStatus_chosen h _ tag
  · exact answerStatus_chosen (hd _) _ tag

/-- A recovery job is requested of a record that names a sector, and the choice follows (R107). -/
theorem setPending_chosen {s : State} (h : s.choosable) {b : Bank} (hb : (s.quarantine.get b).sector ≠ none)
    (p : PendingJob) : (setPending s b p).chosen :=
  chooseJob_chosen (choosable_set_quarantine (r := { s.quarantine.get b with pending := p }) h
    fun _ => Option.isSome_iff_ne_none.2 hb)

theorem runRecovery_chosen {s : State} (h : s.chosen) (tag bank : Byte) (p : PendingJob) :
    (runRecovery s tag bank p).chosen := by
  unfold runRecovery
  split
  · exact answerStatus_chosen h _ tag
  · split
    · exact answerStatus_chosen h _ tag
    · split
      · exact answerStatus_chosen h _ tag
      · next hsec =>
        split
        · exact answerStatus_chosen h _ tag
        · exact answerStatus_chosen (setPending_chosen (chosen_choosable h) hsec p) _ tag

/-- FLUSH, RETRY_PAGE, DISCARD_PAGE and the recovery requests reach lines, queue or records; the others touch none. -/
theorem runCommand_chosen {s : State} (h : s.chosen) (cmd tag : Byte) (args : List Byte) : (runCommand s cmd tag args).chosen := by
  unfold runCommand
  split
  · repeat' split
    all_goals exact chosen_of_frame h
  · split
    · exact chosen_of_frame h
    · split
      · exact runFlush_chosen h _ _
      · split
        · exact runRecovery_chosen h _ _ .restore
        · split
          · exact runRecovery_chosen h _ _ .close
          · exact answerStatus_chosen h _ _
  · split
    · exact chosen_of_frame h
    · split
      · exact runRetryPage_chosen h _ _
      · split
        · exact runDiscardPage_chosen h _ _
        · exact answerStatus_chosen h _ _
  · split <;> exact chosen_of_frame h
  · split <;> exact chosen_of_frame h
  · exact answerStatus_chosen h _ _

theorem executeFrame_chosen {s : State} (h : s.chosen) (f : Frame) : (executeFrame s f).chosen := by
  unfold executeFrame
  split
  · exact answerStatus_chosen h _ _
  · repeat' split
    · exact answerStatus_chosen h _ _
    · exact answerStatus_chosen h _ _
    · exact runCommand_chosen h _ _ _
    · exact answerStatus_chosen h _ _

/-! ### The link -/

theorem completeFrame_chosen {s : State} (h : s.chosen) (f : Frame) : (completeFrame s f).chosen := by
  unfold completeFrame
  split
  · exact executeFrame_chosen (chosen_of_frame h) f
  · exact chosen_of_frame h
  · exact chosen_of_frame h

theorem joinFrame_chosen {s : State} (h : s.chosen) (byte : Byte) : (joinFrame s byte).chosen := by
  unfold joinFrame keepBytes
  split
  · split
    · exact completeFrame_chosen (chosen_of_frame h) _
    · exact chosen_of_frame h
  · exact chosen_of_frame h
  · exact h

theorem startBit_chosen {s : State} (h : s.chosen) : (startBit s).chosen := chosen_of_frame h

theorem receiveByte_chosen {s : State} (h : s.chosen) (byte : Byte) : (receiveByte s byte).chosen := by
  unfold receiveByte
  split
  · exact joinFrame_chosen (startBit_chosen h) byte
  · exact h

theorem receiveBytes_chosen {s : State} (h : s.chosen) (bytes : List Byte) : (receiveBytes s bytes).chosen := by
  induction bytes generalizing s with
  | nil => exact h
  | cons b bytes ih => exact ih (receiveByte_chosen h b)

theorem responseEnds_chosen {s : State} (h : s.chosen) : (responseEnds s).chosen := by
  unfold responseEnds linkMovesOn
  split
  · exact chosen_of_frame h
  · dsimp only
    split
    · exact executeFrame_chosen (chosen_of_frame h) _
    · exact chosen_of_frame h
  · exact chosen_of_frame h

theorem byteComes_chosen {s : State} (h : s.chosen) (byte : Byte) : (byteComes s byte).chosen := by
  unfold byteComes
  split
  · split
    · exact chosen_of_frame h
    · exact receiveByte_chosen h byte
  · exact receiveByte_chosen h byte

theorem responseSentComes_chosen {s : State} (h : s.chosen) : (responseSentComes s).chosen := by
  unfold responseSentComes
  split
  · split
    · exact chosen_of_frame h
    · exact responseEnds_chosen h
  · exact responseEnds_chosen h

theorem breakFound_chosen {s : State} (h : s.chosen) : (breakFound s).chosen := chosen_of_frame h

theorem breakComes_chosen {s : State} (h : s.chosen) : (breakComes s).chosen := by
  unfold breakComes breakWithRequest
  split
  · split
    · exact executeFrame_chosen (breakFound_chosen (chosen_of_frame h)) _
    · exact breakFound_chosen (executeFrame_chosen (chosen_of_frame h) _)
  · exact breakFound_chosen h

/-! ### The commands -/

/-- Every command leaves nothing waiting that could start. -/
theorem exec_chosen {c : Instr} {s t : State} (h : s.chosen) (he : exec c s = .next t) : t.chosen := by
  have hc := chosen_choosable h
  cases c with
  | powerOn left =>
    obtain rfl := Host.Outcome.next.inj he
    exact partReset_chosen _ _ _
  | resetPin left =>
    obtain rfl := Host.Outcome.next.inj he
    unfold resetPinFalls
    split
    · exact h
    · exact partReset_chosen _ _ _
  | linkCommandReset left =>
    obtain rfl := Host.Outcome.next.inj he
    unfold takeDueReset
    split
    · exact partReset_chosen _ _ _
    · exact h
  | resetRelease =>
    obtain rfl := Host.Outcome.next.inj he
    exact releaseReset_chosen h
  | pwarnAsserted =>
    obtain rfl := Host.Outcome.next.inj he
    exact pwarnRises_chosen h
  | pwarnDeasserted =>
    obtain rfl := Host.Outcome.next.inj he
    exact pwarnFalls_chosen h
  | portTransaction t =>
    obtain rfl := Host.Outcome.next.inj he
    exact takeNextTransaction_chosen (chosen_of_frame h)
  | startHoldResume =>
    obtain rfl := Host.Outcome.next.inj he
    exact chooseJob_chosen (startHoldResume_choosable hc)
  | heldWriteRetaken =>
    obtain rfl := Host.Outcome.next.inj he
    exact chooseJob_chosen (retakeHeldWrite_choosable hc)
  | throughAnswer =>
    obtain rfl := Host.Outcome.next.inj he
    exact answerThrough_chosen h
  | ageTimerExpiry =>
    obtain rfl := Host.Outcome.next.inj he
    exact ageTimerExpires_chosen h
  | readPageComplete =>
    obtain rfl := Host.Outcome.next.inj he
    exact readPageCompletes_chosen h
  | blankCheckComplete =>
    obtain rfl := Host.Outcome.next.inj he
    exact blankCheckCompletes_chosen h
  | commit | restore | closeJob =>
    obtain rfl := Host.Outcome.next.inj he
    exact chooseIf_chosen h _
  | replay =>
    obtain rfl := Host.Outcome.next.inj he
    exact replayDue_chosen h
  | endOfStartup =>
    obtain rfl := Host.Outcome.next.inj he
    split
    · exact endStartup_chosen hc
    · exact h
  | drained =>
    obtain rfl := Host.Outcome.next.inj he
    exact drainTest_chosen h
  | byteReceived byte =>
    obtain rfl := Host.Outcome.next.inj he
    exact byteComes_chosen h byte
  | responseSent =>
    obtain rfl := Host.Outcome.next.inj he
    exact responseSentComes_chosen h
  | breakRecognised =>
    obtain rfl := Host.Outcome.next.inj he
    exact breakComes_chosen h
  | lengthFaultFrame | badCommand | ident | status | getRegion | setRegion | getSettings | setSetting | flush | readFault
  | ackFault | retryPage | discardPage | restoreSector | dropJournal | resetPart =>
    obtain rfl := Host.Outcome.next.inj he
    exact receiveBytes_chosen h _
  | _ =>
    obtain rfl := Host.Outcome.next.inj he
    exact chosen_of_frame h

/-- Settles O58: whatever gives the choice something to take makes the choice in the same step, or leaves a job running. -/
theorem stepKeepsTheChoiceLaw : Obligations.StepKeepsTheChoiceLaw := by
  intro s t h hstep
  obtain ⟨-, rfl⟩ | ⟨c, rest, -, he⟩ := step_cases hstep
  · exact takeNextTransaction_chosen h
  · exact exec_chosen (s := { s with pending := rest }) (chosen_of_frame h) he

end Sys2Proof.Machine
end

section
/-! PROOF. The job choice, its order and the start of each job: the choice as one value, and the commands that ask for it (R43, R46, R108,
R112, R143). -/

namespace Sys2Proof.Machine

set_option Elab.async false

/-! ### The choice as one value -/

theorem pendingChoice_of_none {s : State} {b : Bank} (h : (s.quarantine.get b).pending = .none) : pendingChoice s b = none := by
  unfold pendingChoice
  rw [h]
  split <;> simp_all

theorem pendingChoice_restore {s : State} {b : Bank} {sec : SectorNo} (hs : (s.quarantine.get b).sector = some sec)
    (hp : (s.quarantine.get b).pending = .restore) : pendingChoice s b = some (.restore b sec) := by
  simp [pendingChoice, hs, hp]

theorem pendingChoice_close {s : State} {b : Bank} {sec : SectorNo} (hs : (s.quarantine.get b).sector = some sec)
    (hp : (s.quarantine.get b).pending = .close) : pendingChoice s b = some (.close b sec) := by
  simp [pendingChoice, hs, hp]

theorem nextJob_of_nothingToStart {s : State} (h : s.nothingToStart) : nextJob s = none := by
  cases hc : nextJob s with
  | none => rfl
  | some c =>
    exfalso
    obtain ⟨hj, -⟩ := idle_of_nextJob hc
    obtain hrun | ⟨hq, hz, ho⟩ := h
    · simp [hj] at hrun
    · obtain ⟨b, hb⟩ | hh := nextJob_eq_some hc
      · cases b with
        | bank0 => simp [pendingChoice_of_none (b := .bank0) hz] at hb
        | bank1 => simp [pendingChoice_of_none (b := .bank1) ho] at hb
      · simp [headChoice, hq] at hh

/-- A pending recovery job is taken, bank 1's where bank 0 has none (R43). -/
theorem nextJob_of_pending {s : State} (hj : s.job = none) (hs : s.started) {b : Bank} {c : Choice}
    (hc : pendingChoice s b = some c) (hfirst : b = .bank1 → s.quarantine.zero.pending = .none) : nextJob s = some c := by
  rw [nextJob_of_idle hj hs]
  cases b with
  | bank0 => rw [hc, Option.some_or]
  | bank1 => rw [pendingChoice_of_none (b := .bank0) (hfirst rfl), Option.none_or, hc, Option.some_or]

/-- The head of the queue is taken where no recovery job is pending (R43). -/
theorem nextJob_of_head {s : State} (hj : s.job = none) (hs : s.started) (hn : s.nothingPending) {i : LineNo}
    {rest : List LineNo} {p : PageNo} (hq : s.commitQueue = i :: rest) (hp : s.lines[i].page = some p) :
    nextJob s = some (.commit i p) := by
  obtain ⟨hz, ho⟩ := hn
  rw [nextJob_of_idle hj hs, pendingChoice_of_none (b := .bank0) hz, pendingChoice_of_none (b := .bank1) ho, Option.none_or,
    Option.none_or, headChoice, hq]
  simp only [hp, Option.map_some]

/-! ### Asking for the choice -/

theorem chooseIf_of_none {s : State} (h : nextJob s = none) (test : Choice → Bool) : chooseIf s test = s := by
  simp [chooseIf, h]

theorem chooseIf_of_some {s : State} {c : Choice} (h : nextJob s = some c) (test : Choice → Bool) :
    chooseIf s test = if test c then chooseJob s else s := by
  rw [chooseJob_eq h]
  simp [chooseIf, h]

/-- COMMIT, RESTORE and CLOSE_JOB where the choice takes nothing. -/
theorem exec_starts_of_none {s : State} (h : nextJob s = none) :
    exec .commit s = .next s ∧ exec .restore s = .next s ∧ exec .closeJob s = .next s := by
  simp only [exec, execCommit, execRestore, execCloseJob, chooseIf_of_none h, and_self]

/-- COMMIT where the choice takes the head of the queue. -/
theorem exec_starts_of_commit {s : State} {i : LineNo} {p : PageNo} (h : nextJob s = some (.commit i p)) :
    exec .commit s = .next (chooseJob s) ∧ exec .restore s = .next s ∧ exec .closeJob s = .next s := by
  simp [exec, execCommit, execRestore, execCloseJob, chooseIf_of_some h]

/-- RESTORE where the choice takes a pending RESTORE. -/
theorem exec_starts_of_restore {s : State} {b : Bank} {sec : SectorNo} (h : nextJob s = some (.restore b sec)) :
    exec .restore s = .next (chooseJob s) ∧ exec .commit s = .next s ∧ exec .closeJob s = .next s := by
  simp [exec, execCommit, execRestore, execCloseJob, chooseIf_of_some h]

/-- CLOSE_JOB where the choice takes a pending CLOSE. -/
theorem exec_starts_of_close {s : State} {b : Bank} {sec : SectorNo} (h : nextJob s = some (.close b sec)) :
    exec .closeJob s = .next (chooseJob s) ∧ exec .commit s = .next s ∧ exec .restore s = .next s := by
  simp [exec, execCommit, execRestore, execCloseJob, chooseIf_of_some h]

/-! ### The starts of jobs -/

theorem chooseJob_restore_copy {s : State} {b : Bank} {sec : SectorNo} (h : nextJob s = some (.restore b sec))
    (hg : (s.quarantine.get b).ground = .copy) :
    chooseJob s =
      { s with
        job := some (freshJob .restore sec (.loadCopy 0)), buffer := .assembling sec erasedImage,
        op := some (.readPage (copyPage (journalFor sec) 0)) } := by
  rw [chooseJob_eq h, startChoice, startRestore, if_neg (by simp [hg])]
  rfl

theorem chooseJob_restore_cells {s : State} {b : Bank} {sec : SectorNo} (h : nextJob s = some (.restore b sec))
    (hg : (s.quarantine.get b).ground = .cells) :
    chooseJob s =
      { s with job := some (freshJob .restore sec .close), op := some (.readPage (headerPage (journalFor sec))) } := by
  rw [chooseJob_eq h, startChoice, startRestore, if_pos hg]
  rfl

theorem chooseJob_close {s : State} {b : Bank} {sec : SectorNo} (h : nextJob s = some (.close b sec)) :
    chooseJob s =
      { s with job := some (freshJob .close sec .close), op := some (.readPage (headerPage (journalFor sec))) } :=
  chooseJob_eq h

theorem chooseJob_commit {s : State} {i : LineNo} {rest : List LineNo} {p : PageNo} (h : nextJob s = some (.commit i p))
    (hq : s.commitQueue = i :: rest) :
    chooseJob s =
      { s with
        lines := s.lines.set i { s.lines[i] with state := .committing }, commitQueue := rest,
        job := some { freshJob .commit (sectorOf p) .preRead with head := some i, page := some p },
        op := some (.readPage (.user p)) } := by
  have herase : s.commitQueue.erase i = rest := by rw [hq, List.erase_cons_head]
  rw [chooseJob_eq h, ← herase]
  rfl

theorem exec_replay_due {s : State} {jn : Journal} {sec : SectorNo} (hf : s.frontEnd = .starting) (hj : s.job = none)
    (ho : s.op = none) (hs : s.scan = .replay jn) (hopen : journalState s jn = .openFor sec) :
    exec .replay s = .next
      { s with
        job := some (freshJob .replay sec (.loadCopy 0)), buffer := .assembling sec erasedImage,
        op := some (.readPage (copyPage (journalFor sec) 0)) } := by
  have hscan : { s with scan := .replay jn } = s := by rw [← hs]
  have hdue : replayDue s = startReplay s jn sec := by simp [replayDue, hf, hj, ho, hs, hopen]
  rw [show exec .replay s = .next (replayDue s) from rfl, hdue, startReplay, hscan]
  rfl

/-- Settles O31: the choice is one value, `nextJob`, and each command starts it where it is of the command's kind. -/
theorem jobChoiceStartsTheJobs : Obligations.JobChoiceStartsTheJobs := by
  intro s
  refine ⟨fun hn => ?_, fun hj hs => ⟨fun b sec hsec hfirst => ⟨fun hp hg => ?_, fun hp hg => ?_, fun hp => ?_⟩,
    fun i rest p hn hq hp => ?_⟩, fun jn sec hf hj ho hs hopen => exec_replay_due hf hj ho hs hopen⟩
  · exact ⟨chooseJob_of_nothingToStart hn, exec_starts_of_none (nextJob_of_nothingToStart hn)⟩
  · have hc := nextJob_of_pending hj hs (pendingChoice_restore hsec hp) hfirst
    obtain ⟨hr, hcm, hcl⟩ := exec_starts_of_restore hc
    exact ⟨hr, hcm, hcl, chooseJob_restore_copy hc hg⟩
  · have hc := nextJob_of_pending hj hs (pendingChoice_restore hsec hp) hfirst
    exact ⟨(exec_starts_of_restore hc).1, chooseJob_restore_cells hc hg⟩
  · have hc := nextJob_of_pending hj hs (pendingChoice_close hsec hp) hfirst
    obtain ⟨hcl, hcm, hr⟩ := exec_starts_of_close hc
    exact ⟨hcl, hcm, hr, chooseJob_close hc⟩
  · have hc := nextJob_of_head hj hs hn hq hp
    obtain ⟨hcm, hr, hcl⟩ := exec_starts_of_commit hc
    exact ⟨hcm, hr, hcl, chooseJob_commit hc hq⟩

end Sys2Proof.Machine
end

section
/-! PROOF. The blank check of an erase loop: its three outcomes, and what each stage makes of them (R56, R67, R68, R74 to R80, R97). -/

namespace Sys2Proof.Machine

set_option Elab.async false

/-! ### The pages of an image still to program -/

theorem isErasedPage_iff {p : Page} : isErasedPage p = true ↔ ∀ x : Fin 64, p[x] = 0xFF#8 := by
  simp [isErasedPage]

/-- The page found is the first at or after `k` that is not FFh throughout (R73, R77). -/
theorem nextPageToProgram_of_isNextPage {img : Image} {k : Nat} {m : Fin 16} (h : isNextPage img k m) :
    nextPageToProgram img k = some m := by
  obtain ⟨hk, ⟨x, hx⟩, hfirst⟩ := h
  have hm : (decide (k ≤ m.val) && !isErasedPage img[m]) = true := by
    simp only [Bool.and_eq_true, decide_eq_true_eq, Bool.not_eq_true', ← Bool.not_eq_true, isErasedPage_iff]
    exact ⟨hk, fun hall => hx (hall x)⟩
  unfold nextPageToProgram
  rw [List.find?_eq_some_iff_append]
  obtain ⟨before, after, hl⟩ := List.append_of_mem (List.mem_finRange m)
  refine ⟨hm, before, after, hl, fun n hn => ?_⟩
  have hsorted : (List.finRange 16).Pairwise (· < ·) := by decide +kernel
  rw [hl, List.pairwise_append] at hsorted
  have hlt : n < m := hsorted.2.2 n hn m List.mem_cons_self
  simp only [Bool.not_eq_true', Bool.and_eq_false_iff, decide_eq_false_iff_not, Bool.not_eq_false', isErasedPage_iff]
  by_cases hkn : k ≤ n.val
  · exact Or.inr (hfirst n hkn hlt)
  · exact Or.inl hkn

theorem nextPageToProgram_of_noPageLeft {img : Image} {k : Nat} (h : noPageLeft img k) : nextPageToProgram img k = none := by
  unfold nextPageToProgram
  rw [List.find?_eq_none]
  intro n _ hn
  simp only [Bool.and_eq_true, decide_eq_true_eq, Bool.not_eq_true', ← Bool.not_eq_true, isErasedPage_iff] at hn
  exact hn.2 (h n hn.1)

/-- Over an erased page the latch is the target (R50, R73, R77). -/
theorem latchFor_erasedPage (p : Page) : latchFor p erasedPage = p := by
  apply Vector.ext
  intro n hn
  simp [latchFor, erasedPage]

/-! ### The outcomes of the loop -/

/-- A job's BLANK_CHECK completes: the job receives the result, then a held read is evaluated. -/
theorem exec_blankCheckComplete_of_job {s : State} {j : Job} {g : Target} (hop : s.op = some (.blankCheck g))
    (hj : s.job = some j) :
    exec .blankCheckComplete s = .next (evaluateHeldRead g.bank (jobBlankCheck (removeOp s) j (isBlank s.cells g))) := by
  simp [exec, execBlankCheckComplete, blankCheckCompletes, hop, blankCheckDelivered, hj]

/-- A sector that reads BLANK ends the loop in SUCCESS (R56). -/
theorem exec_eraseLoop_succeeds {s u : State} {j : Job} {g : Target} {n : Nat} (hop : s.op = some (.blankCheck g))
    (hj : s.job = some j) (hl : j.loop = some (.erase g n)) (hb : s.readsBlank g)
    (hu : eraseSucceeds (removeOp s) { j with loop := none } = u) :
    exec .blankCheckComplete s = .next (evaluateHeldRead g.bank u) := by
  rw [exec_blankCheckComplete_of_job hop hj, (isBlank_iff s.cells g).2 hb, ← hu]
  simp [jobBlankCheck, hl]

theorem isBlank_eq_false {s : State} {g : Target} (h : ¬ s.readsBlank g) : isBlank s.cells g = false :=
  Bool.eq_false_iff.2 fun hb => h ((isBlank_iff s.cells g).1 hb)

/-- Not BLANK and short of ERS_MAX pulses the loop applies another (R56). -/
theorem exec_eraseLoop_again {s : State} {j : Job} {g : Target} {n : Nat} (hop : s.op = some (.blankCheck g))
    (hj : s.job = some j) (hl : j.loop = some (.erase g n)) (hb : ¬ s.readsBlank g) (hn : n < s.settings.ersMax) :
    exec .blankCheckComplete s = .next (evaluateHeldRead g.bank (startErasePulse (removeOp s) j g (n + 1))) := by
  rw [exec_blankCheckComplete_of_job hop hj, isBlank_eq_false hb]
  simp [jobBlankCheck, hl, removeOp, hn]

/-- Not BLANK with ERS_MAX pulses gone the loop ends in FAILED (R56). -/
theorem exec_eraseLoop_fails {s u : State} {j : Job} {g : Target} {n : Nat} (hop : s.op = some (.blankCheck g))
    (hj : s.job = some j) (hl : j.loop = some (.erase g n)) (hf : s.eraseFails g n)
    (hu : eraseFails (removeOp s) { j with loop := none } n = u) :
    exec .blankCheckComplete s = .next (evaluateHeldRead g.bank u) := by
  obtain ⟨hb, hn⟩ := hf
  rw [exec_blankCheckComplete_of_job hop hj, isBlank_eq_false hb, ← hu]
  simp [jobBlankCheck, hl, removeOp, Nat.not_lt.2 hn]

/-! ### What the stages make of them -/

/-- The end of a rewrite that failed with its target untouched, up to the removal of its record (R68, R75). -/
theorem rewriteFailed_spec {s : State} (hw : s.waitLaw) (j : Job) (step : FaultStep) (js : PerBank JournalState) :
    s.rewriteFailed
      { appendFault (handBackFailed (removeOp s) (jobLines j))
          (.journalFail (journalFor j.sector) step j.sector (j.members.length + (cascadeOf (removeOp s) (jobLines j)).length))
        with journals := js } j step js := by
  obtain ⟨u, hu, hfields, hlines⟩ := handBackFailed_spec (s := removeOp s) hw j
  rw [hu, cascadeOf_length]
  refine ⟨?_, hlines⟩
  rw [hfields]
  rfl

/-- RETIRE and the start of CLOSE (R79, R80). -/
theorem retireAndClose_spec {s : State} (hw : s.waitLaw) {j : Job} {marked : Page} (hm : j.headerImage = some marked)
    (st : Stage) :
    s.retiredAndClosing (retireAndClose (removeOp s) { j with stage := st, loop := none }) j marked := by
  obtain ⟨v, hv, hfields, hlines⟩ := handBackRetired_spec (s := removeOp s) hw j
  refine ⟨v, hfields, hlines, ?_⟩
  rintro _ _ rfl rfl
  have hret : handBackRetired (removeOp s) (jobLines { j with stage := st, loop := none }) = retakeHeldWrite v := hv
  unfold retireAndClose
  rw [hret]
  simp only [hm, Option.getD_some]
  rfl

theorem eraseSucceeds_journalCheck {s : State} {j : Job} (h : j.stage = .journalCheck) :
    eraseSucceeds s j = startLoad (setJournal s (journalFor j.sector) .blank) j := by
  simp [eraseSucceeds, h]

theorem eraseSucceeds_scrub {s : State} {j : Job} {step : FailedStep} (h : j.stage = .scrub) (hs : j.failedStep = some step) :
    eraseSucceeds s j = copyStepFails s j step .blank := by
  simp [eraseSucceeds, h, hs]

theorem eraseFails_scrub {s : State} {j : Job} {step : FailedStep} (h : j.stage = .scrub) (hs : j.failedStep = some step)
    (n : Nat) : eraseFails s j n = copyStepFails s j step .spent := by
  simp [eraseFails, h, hs]

theorem eraseFails_journalCheck {s : State} {j : Job} (h : j.stage = .journalCheck) (n : Nat) :
    eraseFails s j n = journalEraseFails s j := by
  simp [eraseFails, h]

theorem eraseSucceeds_targetErase {s : State} {j : Job} (h : j.stage = .targetErase) :
    eraseSucceeds s j = programFrom s { j with stage := .targetProgram 0 } 0 := by
  simp [eraseSucceeds, h]

theorem eraseSucceeds_closeErase {s : State} {j : Job} (h : j.stage = .closeErase) (hk : j.kind = .rewrite) :
    eraseSucceeds s j = endJob (setJournal s (journalFor j.sector) .blank) := by
  simp [eraseSucceeds, h, hk]

/-- TARGET_PROGRAM goes on with the next page that is not FFh throughout (R77). -/
theorem programFrom_next {s : State} {sec : SectorNo} {img : Image} (hb : s.buffer = .loaded sec img) (j : Job) {k : Nat}
    {m : Fin 16} (hm : isNextPage img k m) :
    programFrom s j k =
      startProgram s { j with stage := .targetProgram m } (.user (sectorPage j.sector m)) img[m] erasedPage := by
  simp only [programFrom, hb, nextPageToProgram_of_isNextPage hm]

/-- With no page left TARGET_PROGRAM has ended (R77, R79, R109). -/
theorem programFrom_done {s : State} {sec : SectorNo} {img : Image} (hb : s.buffer = .loaded sec img) (j : Job) {k : Nat}
    (hno : noPageLeft img k) : programFrom s j k = targetProgrammed s j := by
  simp only [programFrom, hb, nextPageToProgram_of_noPageLeft hno]

/-- A SCRUB's end, BLANK or failed, ends the rewrite with the failure it stands for (R75). -/
theorem copyStepFails_spec {s : State} (hw : s.waitLaw) (j : Job) {step : FailedStep} {fault : FaultStep}
    (hstep : step = .copy ∧ fault = .copy ∨ step = .header ∧ fault = .header ∨ step = .copyDone ∧ fault = .copyDone)
    (after : JournalState) :
    ∃ u, copyStepFails (removeOp s) { j with loop := none } step after = endJob u ∧
      s.rewriteFailed u j fault (s.journals.set (journalBank (journalFor j.sector)) after) := by
  have hfault : faultStepOf step = fault := by
    obtain ⟨rfl, rfl⟩ | ⟨rfl, rfl⟩ | ⟨rfl, rfl⟩ := hstep <;> rfl
  refine ⟨_, ?_, rewriteFailed_spec hw j fault _⟩
  unfold copyStepFails setJournal
  rw [hfault]
  simp only [appendFault_journals, handBackFailed_frame]
  rfl

theorem withJournals_self {u : State} {js : PerBank JournalState} (h : u.journals = js) : { u with journals := js } = u := by
  rw [← h]

/-- A journal check's erase that fails ends the rewrite (R68). -/
theorem journalEraseFails_spec {s : State} (hw : s.waitLaw) {j : Job} (hm : j.members = []) :
    ∃ u, journalEraseFails (removeOp s) { j with loop := none } = endJob u ∧ s.rewriteFailed u j .erase s.journals := by
  have hr := rewriteFailed_spec hw j .erase s.journals
  rw [hm, List.length_nil, Nat.zero_add] at hr
  refine ⟨_, ?_, hr⟩
  rw [withJournals_self (by simp [removeOp])]
  rfl

/-- Settles O27: the loop has three outcomes, and each stage's end of it is one equation. -/
theorem eraseLoopDecides : Obligations.EraseLoopDecides := by
  rintro s j g n _ hop hj hl rfl
  refine ⟨fun hb hn => exec_eraseLoop_again hop hj hl hb hn, fun hst hb => ?_, fun hst hm hf hw => ?_,
    fun step fault hst hs hw hstep => ⟨fun hb => ?_, fun hf => ?_⟩,
    fun sec img hst hb hbuf => ⟨fun m hm => ?_, fun hno => ⟨fun marked hk hmark hw => ?_, fun hk => ?_⟩⟩, fun hst hk hb => ?_⟩
  · exact exec_eraseLoop_succeeds hop hj hl hb ((eraseSucceeds_journalCheck hst).trans rfl)
  · obtain ⟨u, hu, hr⟩ := journalEraseFails_spec hw hm
    exact ⟨u, exec_eraseLoop_fails hop hj hl hf ((eraseFails_journalCheck hst n).trans hu), hr⟩
  · obtain ⟨u, hu, hr⟩ := copyStepFails_spec hw j hstep .blank
    exact ⟨u, exec_eraseLoop_succeeds hop hj hl hb ((eraseSucceeds_scrub hst hs).trans hu), hr⟩
  · obtain ⟨u, hu, hr⟩ := copyStepFails_spec hw j hstep .spent
    exact ⟨u, exec_eraseLoop_fails hop hj hl hf ((eraseFails_scrub hst hs n).trans hu), hr⟩
  · refine exec_eraseLoop_succeeds hop hj hl hb ((eraseSucceeds_targetErase (j := { j with loop := none }) hst).trans ?_)
    rw [programFrom_next (s := removeOp s) hbuf _ hm, startProgram, latchFor_erasedPage]
    rfl
  · refine ⟨_, exec_eraseLoop_succeeds hop hj hl hb ((eraseSucceeds_targetErase (j := { j with loop := none }) hst).trans ?_),
      retireAndClose_spec hw hmark (.targetProgram 0)⟩
    rw [programFrom_done (s := removeOp s) hbuf _ hno, targetProgrammed, if_pos hk]
  · refine exec_eraseLoop_succeeds hop hj hl hb ((eraseSucceeds_targetErase (j := { j with loop := none }) hst).trans ?_)
    rw [programFrom_done (s := removeOp s) hbuf _ hno, targetProgrammed, if_neg hk]
    rfl
  · exact exec_eraseLoop_succeeds hop hj hl hb ((eraseSucceeds_closeErase hst hk).trans rfl)

end Sys2Proof.Machine
end

section
/-! PROOF. What keeps reads, I: the layers of a read, and the commands that seal, age, drain, start jobs or work the link (R85 to R88). -/

namespace Sys2Proof.Machine

set_option Elab.async false

/-! ### A read, layer by layer -/

/-- Every byte of the window reads in `t` as in `s`. -/
def State.readsAs (s t : State) : Prop := ∀ (p : PageNo) (x : Fin 64), readByte t p x = readByte s p x

theorem readsAs_refl (s : State) : s.readsAs s := fun _ _ => rfl

theorem readsAs_trans {s t u : State} (h : s.readsAs t) (h' : t.readsAs u) : s.readsAs u := fun p x => (h' p x).trans (h p x)

/-- A byte comes from the lines, else from the buffer, else from the ground (R85). -/
theorem readByte_eq_getD (s : State) (p : PageNo) (x : Fin 64) :
    readByte s p x = (lineByte s p x).getD ((bufferByte s p x).getD (groundByte s p x)) := by
  unfold readByte
  cases lineByte s p x with
  | some b => rfl
  | none => cases bufferByte s p x <;> rfl

/-- A step that touches none of the layers keeps reads. -/
theorem readsAs_of_frame {s t : State} (hl : t.lines = s.lines := by simp) (ha : t.ageList = s.ageList := by simp)
    (hb : t.buffer = s.buffer := by simp) (hc : t.cells = s.cells := by simp) (hj : t.journals = s.journals := by simp)
    (hq : t.quarantine = s.quarantine := by simp) : s.readsAs t :=
  sameLines_readByte (sameLines_of_eq hl ha) hb hc hj hq

/-- A step that only moves lines between states that are not FREE keeps reads (R88). -/
theorem readsAs_of_sameLines {s t : State} (h : s.sameLines t) (hb : t.buffer = s.buffer := by simp)
    (hc : t.cells = s.cells := by simp) (hj : t.journals = s.journals := by simp)
    (hq : t.quarantine = s.quarantine := by simp) : s.readsAs t :=
  sameLines_readByte h hb hc hj hq

/-- With no rebuild buffer LOADED there is no layer between lines and ground (R87). -/
def State.unloaded (s : State) : Prop := ∀ sec img, s.buffer ≠ .loaded sec img

theorem unloaded_of_empty {s : State} (h : s.buffer = .empty) : s.unloaded := fun _ _ he => by
  rw [h] at he
  cases he

theorem unloaded_of_assembling {s : State} {sec : SectorNo} {img : Image} (h : s.buffer = .assembling sec img) : s.unloaded :=
  fun _ _ he => by
    rw [h] at he
    cases he

theorem unloaded_of_buffer {s t : State} (h : s.unloaded) (hb : t.buffer = s.buffer := by simp) : t.unloaded := by
  unfold State.unloaded
  rwa [hb]

/-- Where no buffer is LOADED before or after, and the ground is the same, reads go by the lines over the ground. -/
theorem readsAs_of_ground {s t : State} (hbs : s.unloaded) (hbt : t.unloaded)
    (hline : ∀ p x, (lineByte t p x).getD (groundByte s p x) = (lineByte s p x).getD (groundByte s p x))
    (hc : t.cells = s.cells := by simp) (hj : t.journals = s.journals := by simp) (hq : t.quarantine = s.quarantine := by simp) :
    s.readsAs t := by
  intro p x
  rw [readByte_eq_getD, readByte_eq_getD, bufferByte_none hbs, bufferByte_none hbt, groundByte_congr hc hj hq]
  exact hline p x

/-- As before, the lines being the same. -/
theorem readsAs_of_unloaded {s t : State} (h : s.sameLines t) (hbs : s.unloaded) (hbt : t.unloaded)
    (hc : t.cells = s.cells := by simp) (hj : t.journals = s.journals := by simp) (hq : t.quarantine = s.quarantine := by simp) :
    s.readsAs t :=
  readsAs_of_ground hbs hbt (fun p x => by rw [sameLines_lineByte h]) hc hj hq

/-! ### Sealing and ageing -/

theorem sealLine_sameLines (s : State) (i : LineNo) : s.sameLines (sealLine s i) := by
  refine ⟨by simp, fun k => ?_⟩
  rw [sealLine_get]
  split
  · next h => exact ⟨iff_of_false (by simp) (by simp [-Fin.getElem_fin, h.2]), rfl, rfl⟩
  · exact ⟨Iff.rfl, rfl, rfl⟩

theorem sealLines_sameLines (s : State) (is : List LineNo) : s.sameLines (sealLines s is) := by
  unfold sealLines
  induction is generalizing s with
  | nil => exact sameLines_refl s
  | cons i is ih => exact sameLines_trans (sealLine_sameLines s i) (ih _)

theorem ageLine_sameLines (s : State) (i : LineNo) : s.sameLines (ageLine s i) := by
  have hu := updateLine_sameLines s i (f := fun l => { l with age := l.age + 1 }) fun _ => ⟨rfl, rfl, rfl⟩
  unfold ageLine
  dsimp only
  split
  · exact sameLines_trans hu (sealLine_sameLines _ i)
  · exact hu

theorem ageLinesFold_sameLines (s : State) (is : List LineNo) : s.sameLines (is.foldl ageLine s) := by
  induction is generalizing s with
  | nil => exact sameLines_refl s
  | cons i is ih => exact sameLines_trans (ageLine_sameLines s i) (ih _)

theorem drainEntry_sameLines (s : State) : s.sameLines (drainEntry s) :=
  sameLines_trans (sealLines_sameLines s _) (sameLines_of_eq (s := sealAll s) (by simp [drainEntry]) (by simp [drainEntry]))

theorem enterDraining_sameLines (s : State) : s.sameLines (enterDraining s) :=
  sameLines_trans (drainEntry_sameLines { s with frontEnd := .draining })
    (sameLines_of_eq (by simp [enterDraining]) (by simp [enterDraining]))

/-! ### The job choice -/

/-- With no job running no buffer is LOADED. -/
def State.idleUnloaded (s : State) : Prop := ∀ sec img, s.job = none → s.buffer ≠ .loaded sec img

theorem idleUnloaded_of_frame {s t : State} (h : s.idleUnloaded) (hj : t.job = s.job := by simp)
    (hb : t.buffer = s.buffer := by simp) : t.idleUnloaded := by
  unfold State.idleUnloaded
  rwa [hj, hb]

/-- The job choice keeps reads: it starts a job only where none runs. -/
theorem chooseJob_readsAs {s : State} (h : s.linesLaw) (hb : s.idleUnloaded) : s.readsAs (chooseJob s) := by
  cases hj : s.job with
  | none => exact chooseJob_readByte (linesLaw_queueHeld h) fun sec img => hb sec img hj
  | some j =>
    rw [chooseJob_of_nothingToStart (Or.inl (Option.isSome_of_eq_some hj))]
    exact readsAs_refl s

/-- A job choice after lines have been sealed or aged. -/
theorem chooseJob_readsAs_of_sameLines {s t : State} (h : s.sameLines t) (hl : t.linesLaw) (hb : s.idleUnloaded)
    (hjob : t.job = s.job := by simp) (hbuf : t.buffer = s.buffer := by simp) (hc : t.cells = s.cells := by simp)
    (hj : t.journals = s.journals := by simp) (hq : t.quarantine = s.quarantine := by simp) : s.readsAs (chooseJob t) :=
  readsAs_trans (readsAs_of_sameLines h hbuf hc hj hq) (chooseJob_readsAs hl (idleUnloaded_of_frame hb hjob hbuf))

theorem chooseIf_readsAs {s : State} (h : s.linesLaw) (hb : s.idleUnloaded) (test : Choice → Bool) :
    s.readsAs (chooseIf s test) := by
  cases hc : nextJob s with
  | none =>
    rw [chooseIf_of_none hc]
    exact readsAs_refl s
  | some c =>
    rw [chooseIf_of_some hc]
    split
    · exact chooseJob_readsAs h hb
    · exact readsAs_refl s

theorem replayDue_readsAs {s : State} (hb : s.idleUnloaded) : s.readsAs (replayDue s) := by
  unfold replayDue
  split
  · next hj _ _ =>
    split
    · exact readsAs_of_unloaded (sameLines_of_eq (by simp) (by simp)) (fun sec img => hb sec img hj)
        fun _ _ he => by cases he
    · exact readsAs_refl s
  · exact readsAs_refl s

/-! ### The commands -/

theorem pwarnRises_readsAs {s : State} (h : s.linesLaw) (hb : s.idleUnloaded) : s.readsAs (pwarnRises s) := by
  unfold pwarnRises
  split
  · exact readsAs_of_frame
  · have hs : State.linesLaw { s with pwarn := true, pwarnNoted := true } := linesLaw_of_frame h
    exact chooseJob_readsAs_of_sameLines (s := s)
      (enterDraining_sameLines { s with pwarn := true, pwarnNoted := true }) (enterDraining_linesLaw hs) hb
  · exact readsAs_of_frame

theorem ageTimerExpires_readsAs {s : State} (h : s.linesLaw) (hb : s.idleUnloaded) : s.readsAs (ageTimerExpires s) := by
  unfold ageTimerExpires
  split
  · refine chooseJob_readsAs_of_sameLines ?_ (linesLaw_of_frame (ageLines_linesLaw h)) hb
    exact sameLines_trans (ageLinesFold_sameLines s _) (sameLines_of_eq (s := ageLines s) (by simp) (by simp))
  · exact readsAs_refl s

theorem throughAnswer_readsAs (s : State) : s.readsAs (answerThrough s) := readsAs_of_sameLines (answerThrough_sameLines s)

/-- In STARTING a transaction is refused or held, and reaches no line (R130). -/
theorem takeTransaction_starting {s : State} (h : s.frontEnd = .starting) (t : Transaction) :
    (takeTransaction s t).lines = s.lines ∧ (takeTransaction s t).ageList = s.ageList := by
  unfold takeTransaction
  rw [if_pos h]
  repeat' split
  all_goals simp

theorem takeNextTransaction_starting {s : State} (h : s.frontEnd = .starting) : s.readsAs (takeNextTransaction s) := by
  unfold takeNextTransaction
  split
  · next t rest _ _ =>
    rw [if_neg (by simp [h])]
    have hn : nextJob (takeTransaction { s with bus := rest, portAnswer := none } t) = none := by
      simp [nextJob, h]
    obtain ⟨hl, ha⟩ := takeTransaction_starting (s := { s with bus := rest, portAnswer := none }) h t
    rw [chooseJob_of_none hn]
    exact readsAs_of_frame hl ha
  · exact readsAs_refl s

theorem releaseReset_readsAs (s : State) : s.readsAs (releaseReset s) := by
  unfold releaseReset
  split
  · exact readsAs_trans (readsAs_of_frame rfl rfl rfl rfl rfl rfl) (takeNextTransaction_starting (s := enterStarting s) rfl)
  · exact readsAs_refl s

/-- Seals, ageing, drains, starts of jobs, expiries of a hold and events of the link keep reads. -/
theorem exec_readsAs_of_keepsReads {c : Instr} {s t : State} (hk : keepsReads c = true)
    (hr : c = .breakRecognised → s.unit.request = none) (h : s.linesLaw) (hb : s.idleUnloaded) (he : exec c s = .next t) :
    s.readsAs t := by
  cases c with
  | pwarnAsserted =>
    obtain rfl := Host.Outcome.next.inj he
    exact pwarnRises_readsAs h hb
  | pwarnDeasserted =>
    obtain rfl := Host.Outcome.next.inj he
    unfold pwarnFalls
    split <;> exact readsAs_of_frame
  | throughAnswer =>
    obtain rfl := Host.Outcome.next.inj he
    exact throughAnswer_readsAs s
  | ageTimerExpiry =>
    obtain rfl := Host.Outcome.next.inj he
    exact ageTimerExpires_readsAs h hb
  | commit | restore | closeJob =>
    obtain rfl := Host.Outcome.next.inj he
    exact chooseIf_readsAs h hb _
  | replay =>
    obtain rfl := Host.Outcome.next.inj he
    exact replayDue_readsAs hb
  | resetRelease =>
    obtain rfl := Host.Outcome.next.inj he
    exact releaseReset_readsAs s
  | breakRecognised =>
    obtain rfl := Host.Outcome.next.inj he
    simp only [breakComes, hr rfl]
    exact readsAs_of_frame
  | holdTimerExpiry | heldReadEvaluated | setupExpiry | holdExpiry | drained | flushDeferredResponse | syncByte
  | syncCandidateBegin | syncCandidateTimeout | syncAnswerSent | gap | framingError | quietWaitEnd | overrun =>
    obtain rfl := Host.Outcome.next.inj he
    exact readsAs_of_frame
  | _ => cases hk

end Sys2Proof.Machine
end

section
/-! PROOF. What keeps reads, II: a pulse moves the cells of one page or one sector, and reads that go to other cells, or to none, stay (R8,
R9, R85 to R88). -/

namespace Sys2Proof.Machine

set_option Elab.async false

/-! ### Pages and sectors of the array lie apart -/

theorem sectorOf_sectorPage (sec : SectorNo) (k : Fin 16) : sectorOf (sectorPage sec k) = sec := by
  apply Fin.ext
  simp only [sectorOf, sectorPage]
  omega

theorem pageInSector_sectorPage (sec : SectorNo) (k : Fin 16) : pageInSector (sectorPage sec k) = k := by
  apply Fin.ext
  simp only [pageInSector, sectorPage]
  omega

/-- A page of a sector is one of its sixteen. -/
theorem exists_sectorPage {p : PageNo} {sec : SectorNo} (h : sectorOf p = sec) : ∃ k, p = sectorPage sec k := by
  subst h
  refine ⟨pageInSector p, Fin.ext ?_⟩
  simp only [sectorPage, sectorOf, pageInSector]
  omega

/-- A page's cells lie inside its sector's. -/
theorem CellPage.base_in_target (cp : CellPage) :
    cp.target.base ≤ cp.base ∧ cp.base + 64 ≤ cp.target.base + cp.target.size := by
  cases cp with
  | user p =>
    simp only [CellPage.target, CellPage.base, Target.base, Target.size, sectorOf]
    omega
  | journal j k =>
    simp only [CellPage.target, CellPage.base, Target.base, Target.size]
    omega

/-- Two sectors share no cell. -/
theorem Target.base_apart {g g' : Target} (h : g ≠ g') : g.base + g.size ≤ g'.base ∨ g'.base + g'.size ≤ g.base := by
  have huser : ∀ (sec : SectorNo) (j : Journal), (Target.user sec).base + (Target.user sec).size ≤ (Target.journal j).base := by
    intro sec j
    cases j <;> simp only [Target.base, Target.size, journalBase] <;> omega
  cases g with
  | user a =>
    cases g' with
    | user b =>
      have hne : a.val ≠ b.val := fun e => h (by rw [Fin.ext e])
      simp only [Target.base, Target.size]
      omega
    | journal j => exact Or.inl (huser a j)
  | journal j =>
    cases g' with
    | user b => exact Or.inr (huser b j)
    | journal j' =>
      cases j <;> cases j'
      · exact absurd rfl h
      · exact Or.inl (by decide)
      · exact Or.inr (by decide)
      · exact absurd rfl h

/-- Two pages share no cell. -/
theorem CellPage.base_apart {cp cp' : CellPage} (h : cp ≠ cp') : cp.base + 64 ≤ cp'.base ∨ cp'.base + 64 ≤ cp.base := by
  by_cases ht : cp.target = cp'.target
  · cases cp with
    | user p =>
      cases cp' with
      | user q =>
        have hne : p.val ≠ q.val := fun e => h (by rw [Fin.ext e])
        simp only [CellPage.base]
        omega
      | journal j k => cases ht
    | journal j k =>
      cases cp' with
      | user q => cases ht
      | journal j' k' =>
        cases ht
        have hne : k.val ≠ k'.val := fun e => h (by rw [Fin.ext e])
        simp only [CellPage.base]
        omega
  · have hin := cp.base_in_target
    have hin' := cp'.base_in_target
    have hapart := Target.base_apart ht
    omega

/-! ### What a pulse leaves of the other cells -/

theorem programCells_elsewhere {m : Memory} (h : Memory.wf m) {cp cp' : CellPage} (hne : cp' ≠ cp) (latch : Page)
    (left : PulseResidue) (x : Fin 64) :
    Memory.read (programCells m cp latch left) (cp'.base + x.val) = Memory.read m (cp'.base + x.val) := by
  have hapart := CellPage.base_apart hne
  rw [programCells, read_update _ _ _ h, if_neg (by omega)]

theorem eraseCells_elsewhere {m : Memory} (h : Memory.wf m) {g : Target} {cp : CellPage} (hne : cp.target ≠ g)
    (left : PulseResidue) (x : Fin 64) :
    Memory.read (eraseCells m g left) (cp.base + x.val) = Memory.read m (cp.base + x.val) := by
  have hin := cp.base_in_target
  have hapart := Target.base_apart hne
  rw [eraseCells, read_update _ _ _ h, if_neg (by omega)]

/-- The ground of a page is its own cells, or the page of a copy whose journal is OPEN for its sector (R86). -/
theorem groundPage_cases (s : State) (p : PageNo) :
    groundPage s p = .user p ∨
      ∃ j, copyOf s (sectorOf p) = some j ∧ groundPage s p = copyPage j (pageInSector p) := by
  unfold groundPage
  cases copyOf s (sectorOf p) with
  | none => exact Or.inl rfl
  | some j => exact Or.inr ⟨j, rfl, rfl⟩

/-- A step that changes cells alone keeps reads when it leaves the ground of every byte that reaches it. -/
theorem readsAs_of_cells {s t : State}
    (h : ∀ p x, lineByte s p x = none → bufferByte s p x = none →
      Memory.read t.cells ((groundPage s p).base + x.val) = Memory.read s.cells ((groundPage s p).base + x.val))
    (hl : t.lines = s.lines := by simp) (ha : t.ageList = s.ageList := by simp) (hb : t.buffer = s.buffer := by simp)
    (hj : t.journals = s.journals := by simp) (hq : t.quarantine = s.quarantine := by simp) : s.readsAs t := by
  intro p x
  rw [readByte_eq_getD, readByte_eq_getD, sameLines_lineByte (sameLines_of_eq hl ha), bufferByte_congr hb]
  have hground : groundPage t p = groundPage s p := by
    unfold groundPage copyOf isNamed
    rw [hj, hq]
  cases hline : lineByte s p x with
  | some b => rfl
  | none =>
    cases hbuf : bufferByte s p x with
    | some b => rfl
    | none =>
      simp only [Option.getD_none]
      unfold groundByte
      rw [hground]
      exact h p x hline hbuf

/-- A program pulse on a page that is the ground of no byte that reaches the ground keeps reads. -/
theorem pulseExpires_readsAs_of_program {s : State} (hwf : s.cellsCanonical) {cp : CellPage} {latch : Page} {w : Nat}
    (hop : s.op = some (.programPulse cp latch (.pulse w)))
    (h : ∀ p x, lineByte s p x = none → bufferByte s p x = none → groundPage s p ≠ cp) (left : PulseResidue) :
    s.readsAs (pulseExpires s left) := by
  refine readsAs_of_cells fun p x hline hbuf => ?_
  have hcells : (pulseExpires s left).cells = programCells s.cells cp latch left := by simp [pulseExpires, hop]
  rw [hcells]
  exact programCells_elsewhere hwf (h p x hline hbuf) latch left x

/-- An erase pulse on a sector that holds the ground of no byte that reaches the ground keeps reads. -/
theorem pulseExpires_readsAs_of_erase {s : State} (hwf : s.cellsCanonical) {g : Target} {w : Nat}
    (hop : s.op = some (.erasePulse g (.pulse w)))
    (h : ∀ p x, lineByte s p x = none → bufferByte s p x = none → (groundPage s p).target ≠ g) (left : PulseResidue) :
    s.readsAs (pulseExpires s left) := by
  refine readsAs_of_cells fun p x hline hbuf => ?_
  have hcells : (pulseExpires s left).cells = eraseCells s.cells g left := by simp [pulseExpires, hop]
  rw [hcells]
  exact eraseCells_elsewhere hwf (h p x hline hbuf) left x

/-! ### Covered pulses -/

/-- A user page is the ground of itself alone. -/
theorem eq_of_groundPage_user {s : State} {p q : PageNo} (h : groundPage s p = .user q) : p = q := by
  obtain hg | ⟨j, -, hg⟩ := groundPage_cases s p
  · rw [hg] at h
    exact CellPage.user.inj h
  · rw [hg] at h
    cases h

theorem sectorOf_of_groundPage_target {s : State} {p : PageNo} {sec : SectorNo} (h : (groundPage s p).target = .user sec) :
    sectorOf p = sec := by
  obtain hg | ⟨j, -, hg⟩ := groundPage_cases s p
  · rw [hg] at h
    exact Target.user.inj h
  · rw [hg] at h
    cases h

theorem copyOf_of_groundPage_target {s : State} {p : PageNo} {jn : Journal} (h : (groundPage s p).target = .journal jn) :
    copyOf s (sectorOf p) = some jn := by
  obtain hg | ⟨j, hc, hg⟩ := groundPage_cases s p
  · rw [hg] at h
    cases h
  · rw [hg] at h
    rw [hc, Target.journal.inj h]

/-- A header page is no ground. -/
theorem groundPage_ne_headerPage (s : State) (p : PageNo) (jn : Journal) : groundPage s p ≠ headerPage jn := by
  intro h
  obtain hg | ⟨j, -, hg⟩ := groundPage_cases s p
  · rw [hg] at h
    cases h
  · rw [hg] at h
    have hk := congrArg Fin.val (CellPage.journal.inj h).2
    simp at hk

/-- A line in use that holds every position of its page gives every byte of it. -/
theorem lineByte_ne_none_of_full {s : State} (h : s.linesLaw) {i : LineNo} {p : PageNo} (hi : s.lines[i].state ≠ .free)
    (hp : s.lines[i].page = some p) (hf : fillsPage s.lines[i].staged) (x : Fin 64) : lineByte s p x ≠ none := by
  intro hn
  obtain hfree | hpage | hstaged := lineByte_eq_none_iff.1 hn i ((mem_ageList_iff h).2 hi)
  · exact hi hfree
  · exact hpage hp
  · have hx := hf x
    rw [hstaged] at hx
    cases hx

/-- No byte of a sector in the LOADED buffer falls past it. -/
theorem sectorOf_ne_of_bufferByte_none {s : State} {sec : SectorNo} {img : Image} (hb : s.buffer = .loaded sec img) {p : PageNo}
    {x : Fin 64} (hn : bufferByte s p x = none) : sectorOf p ≠ sec := by
  rintro rfl
  exact bufferByte_eq_none_iff.1 hn img hb

/-- A journal whose sectors are in the buffer, or have their cells as ground, is the ground of no byte that reaches the ground. -/
theorem not_ground_of_journal_covered {s : State} {jn : Journal}
    (h : ∀ r, journalState s jn = .openFor r → (∃ img, s.buffer = .loaded r img) ∨ s.groundIsCells r) {p : PageNo} {x : Fin 64}
    (hbuf : bufferByte s p x = none) : (groundPage s p).target ≠ .journal jn := by
  intro ht
  have hcopy := copyOf_of_groundPage_target ht
  obtain ⟨img, hb⟩ | hcells := h _ (journalState_of_copyOf hcopy)
  · exact bufferByte_eq_none_iff.1 hbuf img hb
  · rw [copyOf_eq_none_iff.2 hcells] at hcopy
    cases hcopy

/-- A pulse that moves no byte a read takes keeps reads (R76, R85 to R88). -/
theorem pulseExpires_readsAs {s : State} (hl : s.linesLaw) (hwf : s.cellsCanonical) (h : s.pulseIsCovered) (left : PulseResidue) :
    s.readsAs (pulseExpires s left) := by
  obtain ⟨i, q, latch, w, hop, hi, hp, hf⟩ | ⟨sec, img, hb, ⟨k, latch, w, hop⟩ | ⟨w, hop⟩⟩ | ⟨jn, latch, w, hop⟩ |
    ⟨jn, ⟨k, latch, w, hop⟩ | ⟨w, hop⟩, hopen⟩ := h
  · refine pulseExpires_readsAs_of_program hwf hop (fun p x hline _ hg => ?_) left
    obtain rfl := eq_of_groundPage_user hg
    exact lineByte_ne_none_of_full hl hi hp hf x hline
  · refine pulseExpires_readsAs_of_program hwf hop (fun p x _ hbuf hg => ?_) left
    refine sectorOf_ne_of_bufferByte_none hb hbuf ?_
    rw [eq_of_groundPage_user hg, sectorOf_sectorPage]
  · exact pulseExpires_readsAs_of_erase hwf hop
      (fun p x _ hbuf hg => sectorOf_ne_of_bufferByte_none hb hbuf (sectorOf_of_groundPage_target hg)) left
  · exact pulseExpires_readsAs_of_program hwf hop (fun p x _ _ => groundPage_ne_headerPage s p jn) left
  · exact pulseExpires_readsAs_of_program hwf hop
      (fun p x _ hbuf hg => not_ground_of_journal_covered hopen hbuf (by rw [hg]; rfl)) left
  · exact pulseExpires_readsAs_of_erase hwf hop (fun p x _ hbuf => not_ground_of_journal_covered hopen hbuf) left

end Sys2Proof.Machine
end

section
/-! PROOF. What keeps reads, III: a job touches the journal, the record and the buffer of its own sector, so the reads of other sectors
stay; and lines that retire uncover bytes of the same value (R78, R79, R86 to R89). -/

namespace Sys2Proof.Machine

set_option Elab.async false

/-! ### The ground, sector by sector -/

/-- A journal OPEN for a sector is the one its rewrites use (R3): of the law of the records, what a read needs. -/
def State.journalsInPlace (s : State) : Prop := ∀ j sec, journalState s j = .openFor sec → journalFor sec = j

theorem recordsLaw_journalsInPlace {s : State} (h : s.recordsLaw) : s.journalsInPlace := h.2.1

theorem journalFor_eq_of_bankOf {a b : SectorNo} (h : bankOf a = bankOf b) : journalFor a = journalFor b := by
  unfold journalFor
  rw [h]

/-- The one journal that may serve a sector, and the record of its bank, say whether the cells are its ground (R86). -/
theorem groundIsCells_iff {s : State} (h : s.journalsInPlace) {sec : SectorNo} :
    s.groundIsCells sec ↔ journalState s (journalFor sec) ≠ .openFor sec ∨
      ((s.quarantine.get (bankOf sec)).sector = some sec ∧ (s.quarantine.get (bankOf sec)).ground = .cells) := by
  refine or_congr_left ⟨fun hall => hall _, fun hj j hopen => hj ?_⟩
  rwa [h j sec hopen]

theorem copyOf_of_not_cells {s : State} (h : s.journalsInPlace) {sec : SectorNo} (hc : ¬ s.groundIsCells sec) :
    copyOf s sec = some (journalFor sec) := by
  cases hcopy : copyOf s sec with
  | none => exact absurd (copyOf_eq_none_iff.1 hcopy) hc
  | some j => rw [h j sec (journalState_of_copyOf hcopy)]

/-- Where the cells are the ground (R86). -/
theorem groundByte_of_cells {s : State} {sec : SectorNo} (h : s.groundIsCells sec) (k : Fin 16) (x : Fin 64) :
    groundByte s (sectorPage sec k) x = Memory.read s.cells (64 * (16 * sec.val + k.val) + x.val) := by
  unfold groundByte groundPage
  rw [sectorOf_sectorPage, copyOf_eq_none_iff.2 h]
  rfl

/-- Where the copy is the ground (R86). -/
theorem groundByte_of_copy {s : State} (hs : s.journalsInPlace) {sec : SectorNo} (h : ¬ s.groundIsCells sec) (k : Fin 16)
    (x : Fin 64) :
    groundByte s (sectorPage sec k) x =
      Memory.read s.cells (journalBase (journalFor sec) + 64 * (k.val + 1) + x.val) := by
  unfold groundByte groundPage
  rw [sectorOf_sectorPage, copyOf_of_not_cells hs h, pageInSector_sectorPage]
  rfl

/-- States that agree on what the ground of a sector is read it alike. -/
theorem groundByte_of_iff {s t : State} (hs : s.journalsInPlace) (ht : t.journalsInPlace) (hc : t.cells = s.cells) {p : PageNo}
    (h : t.groundIsCells (sectorOf p) ↔ s.groundIsCells (sectorOf p)) (x : Fin 64) : groundByte t p x = groundByte s p x := by
  have hcopy : copyOf t (sectorOf p) = copyOf s (sectorOf p) := by
    by_cases hg : s.groundIsCells (sectorOf p)
    · rw [copyOf_eq_none_iff.2 hg, copyOf_eq_none_iff.2 (h.2 hg)]
    · rw [copyOf_of_not_cells hs hg, copyOf_of_not_cells ht (mt h.1 hg)]
  unfold groundByte groundPage
  rw [hcopy, hc]

/-! ### What a job of a sector touches -/

/-- The journal of a sector is OPEN for no other sector. -/
def State.journalServes (s : State) (sec : SectorNo) : Prop := ∀ r, journalState s (journalFor sec) = .openFor r → r = sec

/-- From `s` to `t` a job has touched no cell, of the journals only that of its sector, and of the records only that of its bank. -/
structure State.touchesOnly (s t : State) (sec : SectorNo) : Prop where
  cells : t.cells = s.cells
  serves : t.journalServes sec
  journals : ∀ j, j ≠ journalFor sec → journalState t j = journalState s j
  records : ∀ b, b ≠ bankOf sec → t.quarantine.get b = s.quarantine.get b

theorem touchesOnly_refl {s : State} {sec : SectorNo} (h : s.journalServes sec) : s.touchesOnly s sec :=
  ⟨rfl, h, fun _ _ => rfl, fun _ _ => rfl⟩

/-- What follows without touching cells, journals or records. -/
theorem touchesOnly_of_frame {s t u : State} {sec : SectorNo} (h : s.touchesOnly t sec) (hc : u.cells = t.cells := by simp)
    (hj : u.journals = t.journals := by simp) (hq : u.quarantine = t.quarantine := by simp) : s.touchesOnly u sec := by
  obtain ⟨hcells, hserves, hjournals, hrecords⟩ := h
  have hstate : ∀ j, journalState u j = journalState t j := fun j => by rw [journalState, hj, journalState]
  exact ⟨hc.trans hcells, fun r hr => hserves r (by rwa [← hstate]), fun j hne => (hstate j).trans (hjournals j hne),
    fun b hb => by rw [hq, hrecords b hb]⟩

/-- The job's own journal is set, and to no other sector. -/
theorem touchesOnly_setJournal {s t : State} {sec : SectorNo} (h : s.touchesOnly t sec) {v : JournalState}
    (hv : ∀ r, v = .openFor r → r = sec) : s.touchesOnly (setJournal t (journalFor sec) v) sec := by
  obtain ⟨hcells, -, hjournals, hrecords⟩ := h
  refine ⟨hcells, fun r hr => ?_, fun j hne => ?_, hrecords⟩
  · rw [journalState_setJournal, if_pos rfl] at hr
    exact hv r hr
  · rw [journalState_setJournal, if_neg hne]
    exact hjournals j hne

/-- The record of the job's bank is set. -/
theorem touchesOnly_set_record {s t : State} {sec : SectorNo} (h : s.touchesOnly t sec) (r : QuarantineRecord) :
    s.touchesOnly { t with quarantine := t.quarantine.set (bankOf sec) r } sec := by
  obtain ⟨hcells, hserves, hjournals, hrecords⟩ := h
  refine ⟨hcells, hserves, hjournals, fun b hb => ?_⟩
  rw [PerBank.get_set, if_neg hb]
  exact hrecords b hb

theorem touchesOnly_setQuarantine {s t : State} {sec : SectorNo} (h : s.touchesOnly t sec) (g : Ground) :
    s.touchesOnly (setQuarantine t sec g) sec := touchesOnly_set_record h _

theorem touchesOnly_clearQuarantine {s t : State} {sec : SectorNo} (h : s.touchesOnly t sec) :
    s.touchesOnly (clearQuarantine t sec) sec := touchesOnly_set_record h _

theorem touchesOnly_journalsInPlace {s t : State} {sec : SectorNo} (hs : s.journalsInPlace) (h : s.touchesOnly t sec) :
    t.journalsInPlace := by
  intro j r hr
  by_cases hj : j = journalFor sec
  · rw [hj] at hr ⊢
    rw [h.serves r hr]
  · exact hs j r (by rwa [← h.journals j hj])

/-- A job leaves the ground of every other sector (R3, R86). -/
theorem groundByte_elsewhere {s t : State} {sec : SectorNo} (hs : s.journalsInPlace) (hserves : s.journalServes sec)
    (h : s.touchesOnly t sec) {p : PageNo} (hp : sectorOf p ≠ sec) (x : Fin 64) : groundByte t p x = groundByte s p x := by
  have ht := touchesOnly_journalsInPlace hs h
  refine groundByte_of_iff hs ht h.cells ?_ x
  rw [groundIsCells_iff hs, groundIsCells_iff ht]
  by_cases hj : journalFor (sectorOf p) = journalFor sec
  · rw [hj]
    exact iff_of_true (Or.inl fun hopen => hp (h.serves _ hopen)) (Or.inl fun hopen => hp (hserves _ hopen))
  · rw [h.journals _ hj, h.records _ fun hb => hj (journalFor_eq_of_bankOf hb)]

/-! ### The ground of the job's own sector -/

/-- The journal of the sector being OPEN for none, the cells are the ground. -/
theorem groundIsCells_of_closed {s : State} (hs : s.journalsInPlace) {sec : SectorNo}
    (h : ∀ r, journalState s (journalFor sec) ≠ .openFor r) : s.groundIsCells sec :=
  (groundIsCells_iff hs).2 (Or.inl (h sec))

theorem groundIsCells_setQuarantine_cells (s : State) (sec : SectorNo) : (setQuarantine s sec .cells).groundIsCells sec := by
  refine Or.inr ?_
  simp [setQuarantine, PerBank.get_set]

/-- A sector quarantined with ground COPY, its journal OPEN for it, has its copy as ground (R86, R104). -/
theorem not_groundIsCells_setQuarantine_copy {s : State} {sec : SectorNo}
    (h : journalState s (journalFor sec) = .openFor sec) : ¬ (setQuarantine s sec .copy).groundIsCells sec := by
  rintro (hall | ⟨-, hground⟩)
  · exact hall _ h
  · simp [setQuarantine, PerBank.get_set] at hground

/-! ### Reads that a job keeps -/

/-- The lines of `t` over an image of the sector, and over anything elsewhere, give what those of `s` give. -/
def State.linesOver (s t : State) (sec : SectorNo) (img : Image) : Prop :=
  ∀ (p : PageNo) (x : Fin 64) (d : Byte), (sectorOf p = sec → d = img[pageInSector p][x]) →
    (lineByte t p x).getD d = (lineByte s p x).getD d

theorem linesOver_of_sameLines {s t : State} (h : s.sameLines t) (sec : SectorNo) (img : Image) : s.linesOver t sec img :=
  fun p x d _ => by rw [sameLines_lineByte h]

theorem image_pageInSector (img : Image) (sec : SectorNo) (k : Fin 16) (x : Fin 64) :
    img[pageInSector (sectorPage sec k)][x] = img[k][x] := by
  simp only [pageInSector_sectorPage]

theorem bufferByte_loaded {s : State} {sec : SectorNo} {img : Image} (h : s.buffer = .loaded sec img) (k : Fin 16) (x : Fin 64) :
    bufferByte s (sectorPage sec k) x = some img[k][x] := by
  simp only [bufferByte, h]
  rw [if_pos (sectorOf_sectorPage sec k).symm, image_pageInSector]

theorem bufferByte_elsewhere {s : State} {sec : SectorNo} {img : Image} (h : s.buffer = .loaded sec img) {p : PageNo}
    (hp : sectorOf p ≠ sec) (x : Fin 64) : bufferByte s p x = none := by
  simp only [bufferByte, h]
  rw [if_neg (Ne.symm hp)]

/-- A job that runs on with the buffer LOADED keeps reads, whatever becomes of its sector's ground. -/
theorem readsAs_of_loaded {s t : State} {sec : SectorNo} {img : Image} (hs : s.journalsInPlace) (hserves : s.journalServes sec)
    (hb : s.buffer = .loaded sec img) (ht : s.touchesOnly t sec) (hl : s.linesOver t sec img)
    (hbt : t.buffer = s.buffer := by simp) : s.readsAs t := by
  intro p x
  rw [readByte_eq_getD, readByte_eq_getD, bufferByte_congr hbt]
  by_cases hp : sectorOf p = sec
  · obtain ⟨k, rfl⟩ := exists_sectorPage hp
    rw [bufferByte_loaded hb]
    exact hl _ x _ fun _ => (image_pageInSector img sec k x).symm
  · rw [bufferByte_elsewhere hb hp, groundByte_elsewhere hs hserves ht hp]
    exact hl p x _ fun h => absurd h hp

/-- A job that ends with the buffer LOADED keeps reads when its sector's lines over the ground give what they gave over the buffer. -/
theorem endJob_readsAs_of_loaded {s u : State} {sec : SectorNo} {img : Image} (hs : s.journalsInPlace)
    (hserves : s.journalServes sec) (hb : s.buffer = .loaded sec img) (hlaw : u.linesLaw) (ht : s.touchesOnly u sec)
    (hl : s.linesOver u sec img)
    (hground : ∀ k x, lineByte s (sectorPage sec k) x = none ∨ lineByte u (sectorPage sec k) x = none →
      groundByte u (sectorPage sec k) x = img[k][x]) : s.readsAs (endJob u) := by
  intro p x
  rw [endJob_readByte (linesLaw_queueHeld hlaw), readByte_eq_getD]
  by_cases hp : sectorOf p = sec
  · obtain ⟨k, rfl⟩ := exists_sectorPage hp
    have hlk := hl (sectorPage sec k) x img[k][x] fun _ => (image_pageInSector img sec k x).symm
    rw [bufferByte_loaded hb, Option.getD_some, ← hlk]
    cases hline : lineByte u (sectorPage sec k) x with
    | some b => rfl
    | none => exact hground k x (Or.inr hline)
  · rw [bufferByte_elsewhere hb hp, groundByte_elsewhere hs hserves ht hp]
    exact hl p x _ fun h => absurd h hp

/-- A job that ends with no buffer LOADED, the ground untouched. -/
theorem endJob_readsAs_of_unloaded {s u : State} (hb : s.unloaded) (hlaw : u.linesLaw)
    (hline : ∀ p x, (lineByte u p x).getD (groundByte s p x) = (lineByte s p x).getD (groundByte s p x))
    (hc : u.cells = s.cells := by simp) (hj : u.journals = s.journals := by simp) (hq : u.quarantine = s.quarantine := by simp) :
    s.readsAs (endJob u) := by
  intro p x
  rw [endJob_readByte (linesLaw_queueHeld hlaw), readByte_eq_getD, bufferByte_none hb, groundByte_congr hc hj hq]
  exact hline p x

/-! ### Lines that retire -/

/-- Leaving out of a list, newest first, lines that give a byte only where the line they give it over stands below them alone. -/
theorem findSome?_filter_getD {give : LineNo → Option Byte} {held : LineNo → Bool} {d : Byte} (is : List LineNo)
    (h : ∀ newer l older b, is = newer ++ l :: older → held l = true → give l = some b → (∀ n ∈ newer, give n = none) →
      (∀ n ∈ older, held n = false → give n = none) ∧ b = d) :
    ((is.filter fun k => !held k).findSome? give).getD d = (is.findSome? give).getD d := by
  cases hf : is.findSome? give with
  | none =>
    rw [List.findSome?_eq_none_iff] at hf
    rw [List.findSome?_eq_none_iff.2 fun k hk => hf k (List.mem_filter.1 hk).1]
  | some b =>
    obtain ⟨newer, l, older, rfl, hl, hnewer⟩ := List.findSome?_eq_some_iff.1 hf
    have hrest : (newer.filter fun k => !held k).findSome? give = none :=
      List.findSome?_eq_none_iff.2 fun k hk => hnewer k (List.mem_filter.1 hk).1
    rw [List.filter_append, List.findSome?_append, hrest, Option.none_or]
    cases hheld : held l with
    | false => simp [hheld, hl]
    | true =>
      obtain ⟨holder, rfl⟩ := h newer l older b rfl hheld hl hnewer
      have hnone : (older.filter fun k => !held k).findSome? give = none := by
        refine List.findSome?_eq_none_iff.2 fun k hk => ?_
        obtain ⟨hmem, hout⟩ := List.mem_filter.1 hk
        exact holder k hmem (by simpa using hout)
      simp [hheld, hnone]

/-- The lines that remain after a job has handed its lines back as retired. -/
theorem handBackRetired_lineByte {s : State} (h : s.linesLaw) (hf : s.holdsForLine = false) (j : Job) (p : PageNo) (x : Fin 64) :
    lineByte (handBackRetired s (jobLines j)) p x =
      (s.ageList.reverse.filter fun k => !s.heldBy j k).findSome? (lineGives s p x) := by
  rw [sameLines_lineByte (handBackRetired_sameLines hf _), freeLines_lineByte s _ h.1]
  congr 1
  refine List.filter_congr fun k _ => congrArg _ ?_
  rw [Bool.eq_iff_iff, List.contains_iff_mem]
  exact mem_committingIn s j k

/-- Retiring keeps a byte whose newest line, where the job holds it, gives what stands below, no line that remains being older. -/
theorem handBackRetired_getD {s : State} (h : s.linesLaw) (hf : s.holdsForLine = false) {j : Job} {p : PageNo} {x : Fin 64}
    {d : Byte}
    (hheld : ∀ older l newer b, s.ageList = older ++ l :: newer → s.heldBy j l = true → lineGives s p x l = some b →
      (∀ n ∈ newer, lineGives s p x n = none) → (∀ n ∈ older, s.heldBy j n = false → lineGives s p x n = none) ∧ b = d) :
    (lineByte (handBackRetired s (jobLines j)) p x).getD d = (lineByte s p x).getD d := by
  rw [handBackRetired_lineByte h hf, lineByte_eq]
  refine findSome?_filter_getD _ fun newer l older b hsplit hl hb hnewer => ?_
  have hage : s.ageList = older.reverse ++ l :: newer.reverse := by
    rw [← List.reverse_reverse s.ageList, hsplit]
    simp
  obtain ⟨holder, hd⟩ := hheld older.reverse l newer.reverse b hage hl hb fun n hn => hnewer n (List.mem_reverse.1 hn)
  exact ⟨fun n hn => holder n (List.mem_reverse.2 hn), hd⟩

theorem lineGives_eq_some {s : State} {p : PageNo} {x : Fin 64} {l : LineNo} {b : Byte} (h : lineGives s p x l = some b) :
    s.lines[l].state ≠ .free ∧ s.lines[l].page = some p ∧ s.lines[l].staged[x] = some b := by
  unfold lineGives at h
  split at h
  · next hl => exact ⟨hl.1, hl.2, h⟩
  · cases h

theorem lineGives_of_page_ne {s : State} {p : PageNo} {l : LineNo} (h : s.lines[l].page ≠ some p) (x : Fin 64) :
    lineGives s p x l = none := if_neg fun hl => h hl.2

/-- What a line in use of the page gives is its staged byte. -/
theorem lineGives_of_used {s : State} {p : PageNo} {l : LineNo} (hs : s.lines[l].state ≠ .free) (hp : s.lines[l].page = some p)
    (x : Fin 64) : lineGives s p x l = s.lines[l].staged[x] := if_pos ⟨hs, hp⟩

end Sys2Proof.Machine
end

section
/-! PROOF. What keeps reads, IV: the completions of a COMMIT: the fill of its line, its end, and the start of a rewrite (R47 to R49, R54,
R55, R67 to R69). -/

namespace Sys2Proof.Machine

set_option Elab.async false

/-! ### A completion, delivered to the job -/

/-- A job's READ_PAGE completes: the job receives the page, then a held read is evaluated. -/
theorem exec_readPageComplete_of_job {s : State} {j : Job} {cp : CellPage} (hop : s.op = some (.readPage cp)) (hj : s.job = some j) :
    exec .readPageComplete s =
      .next (evaluateHeldRead cp.target.bank (jobReads (removeOp s) j (readCells s.cells cp))) := by
  simp [exec, execReadPageComplete, readPageCompletes, hop, readPageDelivered, hj]

/-- The removal of the operation record and the evaluation of a held read keep reads: what the job does between them decides. -/
theorem readsAs_of_delivered {s u : State} (h : (removeOp s).readsAs u) (b : Bank) : s.readsAs (evaluateHeldRead b u) :=
  fun p x => (evaluateHeldRead_readByte b u p x).trans (h p x)

theorem readPageComplete_readsAs {s t : State} {j : Job} {cp : CellPage} (hop : s.op = some (.readPage cp)) (hj : s.job = some j)
    (he : exec .readPageComplete s = .next t) (h : (removeOp s).readsAs (jobReads (removeOp s) j (readCells s.cells cp))) :
    s.readsAs t := by
  rw [exec_readPageComplete_of_job hop hj] at he
  obtain rfl := Host.Outcome.next.inj he
  exact readsAs_of_delivered h _

theorem blankCheckComplete_readsAs {s t : State} {j : Job} {g : Target} (hop : s.op = some (.blankCheck g)) (hj : s.job = some j)
    (he : exec .blankCheckComplete s = .next t)
    (h : (removeOp s).readsAs (jobBlankCheck (removeOp s) j (isBlank s.cells g))) : s.readsAs t := by
  rw [exec_blankCheckComplete_of_job hop hj] at he
  obtain rfl := Host.Outcome.next.inj he
  exact readsAs_of_delivered h _

/-- A verify keeps reads when the ends of its loop do: a further pulse touches no layer. -/
theorem jobReads_verify_readsAs {s : State} {j : Job} {cp : CellPage} {image latch page : Page} {n : Nat}
    (hl : j.loop = some (.program cp image latch n))
    (hsucc : page = image → s.readsAs (programSucceeds s { j with loop := none }))
    (hfail : ∀ cause, s.readsAs (programFails s { j with loop := none } cause n)) : s.readsAs (jobReads s j page) := by
  simp only [jobReads, hl, verifyDone]
  split
  · next hv =>
    refine hsucc ?_
    unfold verdictOf at hv
    by_cases he : page = image
    · exact he
    · rw [if_neg he] at hv
      split at hv
      · cases hv
      · split at hv <;> cases hv
  · exact readsAs_of_frame
  · next cause _ => exact hfail cause

/-- A blank check keeps reads when the ends of its loop do: a further pulse touches no layer. -/
theorem jobBlankCheck_readsAs {s : State} {j : Job} {g : Target} {n : Nat} (hl : j.loop = some (.erase g n))
    (hsucc : s.readsAs (eraseSucceeds s { j with loop := none })) (hfail : s.readsAs (eraseFails s { j with loop := none } n))
    (blank : Bool) : s.readsAs (jobBlankCheck s j blank) := by
  simp only [jobBlankCheck, hl]
  split
  · exact hsucc
  · split
    · exact readsAs_of_frame
    · exact hfail

/-! ### The line of a COMMIT -/

/-- Line `i` is the oldest line of page `p`. -/
def State.oldestOf (s : State) (i : LineNo) (p : PageNo) : Prop :=
  ∀ older newer : List LineNo, s.ageList = older ++ i :: newer → ∀ k ∈ older, s.lines[k].page ≠ some p

/-- A byte of a page comes from the lines newer than its oldest, else from that. -/
theorem lineByte_of_oldest {s : State} {i : LineNo} {p : PageNo} {older newer : List LineNo} (hage : s.ageList = older ++ i :: newer)
    (hold : ∀ k ∈ older, s.lines[k].page ≠ some p) (x : Fin 64) :
    lineByte s p x = (newer.reverse.findSome? (lineGives s p x)).or (lineGives s p x i) := by
  have hnone : older.reverse.findSome? (lineGives s p x) = none :=
    List.findSome?_eq_none_iff.2 fun k hk => lineGives_of_page_ne (hold k (List.mem_reverse.1 hk)) x
  rw [lineByte_eq, hage, List.reverse_append, List.reverse_cons, List.findSome?_append, List.findSome?_append, hnone]
  simp

theorem fillLine_get {s : State} {i : LineNo} (hi : s.lines[i].state = .committing) (image : Page) (k : LineNo) :
    (fillLine s i image).lines[k] = if k = i then { s.lines[i] with staged := filledWith image } else s.lines[k] := by
  rw [fillLine, updateLine_get]
  split
  · next hk =>
    subst hk
    rw [if_pos hi]
  · rfl

/-- The fill changes what its own line gives for its own page alone. -/
theorem lineGives_fillLine {s : State} {i : LineNo} (hi : s.lines[i].state = .committing) (image : Page) {k : LineNo} {q : PageNo}
    (h : k ≠ i ∨ s.lines[i].page ≠ some q) (x : Fin 64) : lineGives (fillLine s i image) q x k = lineGives s q x k := by
  by_cases hk : k = i
  · subst hk
    have hq := h.resolve_left (not_not.2 rfl)
    rw [lineGives_of_page_ne hq, lineGives_of_page_ne]
    rwa [fillLine_get hi, if_pos rfl]
  · unfold lineGives
    rw [fillLine_get hi, if_neg hk]

/-- Filled with its own bytes over the ground, the oldest line of a page changes no byte over the ground (R47). -/
theorem fillLine_readsAs {s : State} (hl : s.linesLaw) {i : LineNo} {p : PageNo} (hi : s.lines[i].state = .committing)
    (hp : s.lines[i].page = some p) (hold : s.oldestOf i p) (hb : s.unloaded) {image : Page}
    (himg : ∀ x : Fin 64, image[x] = s.lines[i].staged[x].getD (groundByte s p x)) : s.readsAs (fillLine s i image) := by
  have hused : s.lines[i].state ≠ .free := by simp [-Fin.getElem_fin, hi]
  refine readsAs_of_ground hb (unloaded_of_buffer hb) fun q x => ?_
  by_cases hq : q = p
  · subst hq
    obtain ⟨older, newer, hage⟩ := List.append_of_mem ((mem_ageList_iff hl).2 hused)
    have hnew : i ∉ newer := by
      have hnodup := hl.1
      rw [hage, List.nodup_append] at hnodup
      exact (List.nodup_cons.1 hnodup.2.1).1
    have hgive : lineGives (fillLine s i image) q x i = some image[x] := by
      rw [lineGives_of_used] <;> rw [fillLine_get hi, if_pos rfl]
      · simp [filledWith]
      · exact hused
      · exact hp
    have hrest : newer.reverse.findSome? (lineGives (fillLine s i image) q x) = newer.reverse.findSome? (lineGives s q x) :=
      findSome?_congr fun k hk => lineGives_fillLine hi image (Or.inl fun e => hnew (e ▸ List.mem_reverse.1 hk)) x
    have hold' : ∀ k ∈ older, (fillLine s i image).lines[k].page ≠ some q := by
      intro k hk
      rw [fillLine_get hi]
      split
      · next e => exact e ▸ hold older newer hage k hk
      · exact hold older newer hage k hk
    rw [lineByte_of_oldest (s := fillLine s i image) (by simpa using hage) hold', lineByte_of_oldest hage (hold _ _ hage), hrest,
      hgive, lineGives_of_used hused hp, himg x]
    cases newer.reverse.findSome? (lineGives s q x) <;> rfl
  · have hne : s.lines[i].page ≠ some q := by
      rw [hp]
      exact fun e => hq (Option.some.inj e).symm
    rw [lineByte_eq, lineByte_eq, (show (fillLine s i image).ageList = s.ageList by simp),
      findSome?_congr fun k _ => lineGives_fillLine hi image (Or.inr hne) x]

/-- A job of one line holds that line alone. -/
theorem eq_of_heldBy {s : State} {j : Job} {i l : LineNo} (hh : j.head = some i) (hm : j.members = []) (h : s.heldBy j l = true) :
    l = i := by
  have hmem := (mem_jobLines j l).2 (Bool.and_eq_true_iff.1 h).2
  rw [jobLines, hh, hm] at hmem
  exact List.mem_singleton.1 hmem

/-! ### The ends of a COMMIT -/

/-- A COMMIT that succeeds keeps reads when the ground holds what its line holds, the oldest of its page (R54). -/
theorem commitSucceeds_readsAs {s : State} (hl : s.linesLaw) (hf : s.holdsForLine = false) {j : Job} {i : LineNo} {p : PageNo}
    (hh : j.head = some i) (hm : j.members = []) (hp : s.lines[i].page = some p) (hold : s.oldestOf i p) (hb : s.unloaded)
    (hg : ∀ (x : Fin 64) (b : Byte), s.lines[i].staged[x] = some b → b = groundByte s p x) : s.readsAs (commitSucceeds s j) := by
  refine endJob_readsAs_of_unloaded hb (handBackRetired_linesLaw hl _) fun q x => handBackRetired_getD hl hf ?_
  intro older l newer b hage hheld hgives _
  obtain rfl := eq_of_heldBy hh hm hheld
  obtain ⟨-, hpage, hstaged⟩ := lineGives_eq_some hgives
  obtain rfl := Option.some.inj (hp.symm.trans hpage)
  exact ⟨fun n hn _ => lineGives_of_page_ne (hold older newer hage n hn) x, hg x b hstaged⟩

/-- A job that fails with its lines and makes an entry keeps reads over the ground (R55, R68, R69, R88). -/
theorem endJob_failed_readsAs {s : State} (hl : s.linesLaw) (hb : s.unloaded) (is : List LineNo) (k : FaultKind) :
    s.readsAs (endJob (appendFault (handBackFailed s is) k)) := by
  refine endJob_readsAs_of_unloaded hb (linesLaw_of_frame (handBackFailed_linesLaw hl is)) fun p x => ?_
  have hsame : s.sameLines (appendFault (handBackFailed s is) k) :=
    sameLines_trans (handBackFailed_sameLines s is) (sameLines_of_eq rfl rfl)
  rw [sameLines_lineByte hsame]

theorem commitFails_readsAs {s : State} (hl : s.linesLaw) (hb : s.unloaded) (j : Job) (page : PageNo) (cause : LoopFailure)
    (n : Nat) : s.readsAs (commitFails s j page cause n) := endJob_failed_readsAs hl hb _ _

theorem journalEraseFails_readsAs {s : State} (hl : s.linesLaw) (hb : s.unloaded) (j : Job) : s.readsAs (journalEraseFails s j) :=
  endJob_failed_readsAs hl hb _ _

/-! ### The start of a rewrite -/

theorem startLoad_readsAs {s : State} (hb : s.unloaded) (j : Job) : s.readsAs (startLoad s j) :=
  readsAs_of_unloaded (sameLines_of_eq rfl rfl) hb fun _ _ he => by cases he

theorem journalCheck_readsAs {s : State} (hl : s.linesLaw) (hb : s.unloaded) (j : Job) (page : PageNo) :
    s.readsAs (journalCheck s j page) := by
  unfold journalCheck
  split
  · exact startLoad_readsAs hb j
  · exact readsAs_of_frame
  · split
    · exact readsAs_of_frame
    · exact endJob_failed_readsAs hl hb _ _
  · exact readsAs_of_frame

/-! ### The completions of a COMMIT -/

theorem groundByte_eq_readCells {s : State} {p : PageNo} (h : s.groundIsCells (sectorOf p)) (x : Fin 64) :
    groundByte s p x = (readCells s.cells (.user p))[x] := by
  rw [readCells_get, groundByte, groundPage, copyOf_eq_none_iff.2 h]

/-- The pre-read of a COMMIT keeps reads: fill, then elision, program loop or rewrite (R47 to R49). -/
theorem preReadDone_readsAs {s : State} (hl : s.linesLaw) (hf : s.holdsForLine = false) {j : Job} {i : LineNo} {p : PageNo}
    (hh : j.head = some i) (hm : j.members = []) (hpage : j.page = some p) (hi : s.lines[i].state = .committing)
    (hp : s.lines[i].page = some p) (hold : s.oldestOf i p) (hb : s.unloaded) (hg : s.groundIsCells (sectorOf p)) :
    s.readsAs (preReadDone s j (readCells s.cells (.user p))) := by
  simp only [preReadDone, hh, hpage]
  generalize himage : overlay s.lines[i].staged (readCells s.cells (.user p)) = image
  have himg : ∀ x : Fin 64, image[x] = s.lines[i].staged[x].getD (groundByte s p x) := fun x => by
    rw [← himage, groundByte_eq_readCells hg]
    simp [overlay]
  have hfill := fillLine_readsAs hl hi hp hold hb himg
  have hfl : (fillLine s i image).linesLaw := fillLine_linesLaw hl i image
  have hfb : (fillLine s i image).unloaded := unloaded_of_buffer hb
  have hline := fillLine_get hi image
  split
  · next heq =>
    refine readsAs_trans hfill (commitSucceeds_readsAs (i := i) (p := p) hfl ?_ hh hm ?_ ?_ hfb ?_)
    · rw [State.holdsForLine, (show (fillLine s i image).port = s.port by simp)]
      exact hf
    · rwa [hline, if_pos rfl]
    · intro older newer hage k hk
      have hk' := hold older newer (by simpa using hage) k hk
      rw [hline]
      split
      · next e => exact e ▸ hk'
      · exact hk'
    · intro x b hstaged
      rw [hline, if_pos rfl] at hstaged
      have hground : groundByte (fillLine s i image) p x = groundByte s p x :=
        groundByte_congr (by simp) (by simp) (by simp) p x
      rw [hground, groundByte_eq_readCells hg, ← heq]
      simpa [filledWith, eq_comm] using hstaged
  · split
    · exact readsAs_trans hfill (journalCheck_readsAs hfl hfb _ _)
    · exact readsAs_trans hfill readsAs_of_frame

theorem commitHandsOver_readsAs {s t : State} {c : Instr} {j : Job} (hl : s.linesLaw) (hf : s.holdsForLine = false)
    (hj : s.job = some j) (he : exec c s = .next t) (h : s.commitHandsOver c j) : s.readsAs t := by
  obtain ⟨i, p, rfl, hsec, hop, hh, hm, hpage, hi, hp, hold, hempty, hg, hstage⟩ := h
  rw [← hsec] at hg
  have hb : (removeOp s).unloaded := unloaded_of_empty hempty
  refine readPageComplete_readsAs hop hj he ?_
  obtain ⟨hst, hloop⟩ | ⟨image, latch, n, hst, hloop, hfilled⟩ := hstage
  · simp only [jobReads, hloop, hst]
    exact preReadDone_readsAs (s := removeOp s) hl hf hh hm hpage hi hp hold hb hg
  · refine jobReads_verify_readsAs hloop (fun hread => ?_) fun cause => ?_
    · simp only [programSucceeds, hst]
      refine commitSucceeds_readsAs (s := removeOp s) (i := i) (p := p) hl hf hh hm hp hold hb fun x b hstaged => ?_
      have hground : groundByte (removeOp s) p x = (readCells s.cells (.user p))[x] := groundByte_eq_readCells (s := removeOp s) hg x
      rw [hground, hread]
      have hx : s.lines[i].staged[x] = some b := hstaged
      rw [hfilled] at hx
      simpa [filledWith, eq_comm] using hx
    · simp only [programFails, hst, hpage]
      exact commitFails_readsAs (s := removeOp s) hl hb _ p cause n

end Sys2Proof.Machine
end

section
/-! PROOF. What keeps reads, V: a rewrite from its journal check to COPY_DONE, and the copy load of a RESTORE (R67, R68, R70 to R75, R108). -/

namespace Sys2Proof.Machine

set_option Elab.async false

/-! ### The journal of the job, closed or OPEN -/

/-- The journal of a sector is OPEN for no sector. -/
def State.journalClosed (s : State) (sec : SectorNo) : Prop := ∀ r, journalState s (journalFor sec) ≠ .openFor r

theorem journalServes_of_closed {s : State} {sec : SectorNo} (h : s.journalClosed sec) : s.journalServes sec :=
  fun r hr => absurd hr (h r)

theorem journalClosed_setJournal {s : State} {sec : SectorNo} {v : JournalState} (hv : ∀ r, v ≠ .openFor r) :
    (setJournal s (journalFor sec) v).journalClosed sec := fun r => by
  rw [journalState_setJournal, if_pos rfl]
  exact hv r

theorem journalClosed_of_journals {s t : State} {sec : SectorNo} (h : s.journalClosed sec)
    (hj : t.journals = s.journals := by simp) : t.journalClosed sec := fun r => by
  rw [journalState, hj]
  exact h r

theorem journalsInPlace_of_journals {s t : State} (h : s.journalsInPlace) (hj : t.journals = s.journals := by simp) :
    t.journalsInPlace := fun j sec ho => h j sec (by rwa [journalState, hj] at ho)

/-- A journal set to a state that is not OPEN, as a step of the job of its sector. -/
theorem touchesOnly_closeJournal {s : State} {sec : SectorNo} (h : s.journalServes sec) {v : JournalState}
    (hv : ∀ r, v ≠ .openFor r) : s.touchesOnly (setJournal s (journalFor sec) v) sec :=
  touchesOnly_setJournal (touchesOnly_refl h) fun r hr => absurd hr (hv r)

/-- Where the cells are and stay the ground of the job's sector, the ground of every page stays. -/
theorem groundByte_of_closed {s t : State} {sec : SectorNo} (hs : s.journalsInPlace) (hc : s.journalClosed sec)
    (ht : s.touchesOnly t sec) (hct : t.journalClosed sec) (p : PageNo) (x : Fin 64) : groundByte t p x = groundByte s p x := by
  have htp := touchesOnly_journalsInPlace hs ht
  by_cases hp : sectorOf p = sec
  · refine groundByte_of_iff hs htp ht.cells ?_ x
    rw [hp]
    exact iff_of_true (groundIsCells_of_closed htp hct) (groundIsCells_of_closed hs hc)
  · exact groundByte_elsewhere hs (journalServes_of_closed hc) ht hp x

/-! ### The journal check's erase, and LOAD -/

/-- A journal check's erase that succeeds keeps reads: its journal was OPEN for none (R67). -/
theorem startLoad_blank_readsAs {s : State} (hs : s.journalsInPlace) (hb : s.unloaded) (j : Job) (hc : s.journalClosed j.sector) :
    s.readsAs (startLoad (setJournal s (journalFor j.sector) .blank) j) := by
  refine readsAs_trans (t := setJournal s (journalFor j.sector) .blank) (fun p x => ?_) (startLoad_readsAs (unloaded_of_buffer hb) j)
  have hline : lineByte (setJournal s (journalFor j.sector) .blank) p x = lineByte s p x :=
    sameLines_lineByte (sameLines_of_eq rfl rfl) p x
  rw [readByte_eq_getD, readByte_eq_getD, bufferByte_none hb, bufferByte_none (unloaded_of_buffer hb), hline,
    groundByte_of_closed hs hc (touchesOnly_closeJournal (v := .blank) (journalServes_of_closed hc) nofun)
      (journalClosed_setJournal (v := .blank) nofun)]

theorem loadNext_readsAs {s : State} {j : Job} {k : Fin 16} (hk : k < 15) {sec : SectorNo} {img : Image}
    (hb : s.buffer = .assembling sec img) (page : Page) : s.readsAs (loadNext s j k page) := by
  have hlt : k.val + 1 < 16 := by omega
  simp only [loadNext, hb, dif_pos hlt]
  exact readsAs_of_unloaded (sameLines_of_eq rfl rfl) (unloaded_of_assembling hb) fun _ _ he => by cases he

theorem loadHandsOver_readsAs {s t : State} {c : Instr} {j : Job} (hl : s.linesLaw) (hs : s.journalsInPlace) (hj : s.job = some j)
    (he : exec c s = .next t) (h : s.loadHandsOver c j) : s.readsAs t := by
  obtain ⟨n, rfl, hop, hst, hloop, hempty, hc⟩ | ⟨k, img, hk, rfl, hop, hst, hloop, hb⟩ := h
  · have hb : (removeOp s).unloaded := unloaded_of_empty hempty
    refine blankCheckComplete_readsAs hop hj he (jobBlankCheck_readsAs hloop ?_ ?_ _)
    · rw [eraseSucceeds_journalCheck (j := { j with loop := none }) hst]
      exact startLoad_blank_readsAs (s := removeOp s) hs hb { j with loop := none } hc
    · rw [eraseFails_journalCheck (j := { j with loop := none }) hst]
      exact journalEraseFails_readsAs (s := removeOp s) hl hb _
  · refine readPageComplete_readsAs hop hj he ?_
    simp only [jobReads, hloop, hst]
    exact loadNext_readsAs (s := removeOp s) hk hb _

/-! ### An image that becomes LOADED -/

/-- A buffer that becomes LOADED with what the ground holds, wherever no line holds the byte, keeps reads. -/
theorem readsAs_of_assembled {s t : State} {sec : SectorNo} {img : Image} (hb : s.unloaded) (hlines : s.sameLines t)
    (himg : ∀ k x, lineByte s (sectorPage sec k) x = none → img[k][x] = groundByte s (sectorPage sec k) x)
    (hbt : t.buffer = .loaded sec img) (hc : t.cells = s.cells := by simp) (hj : t.journals = s.journals := by simp)
    (hq : t.quarantine = s.quarantine := by simp) : s.readsAs t := by
  intro p x
  rw [readByte_eq_getD, readByte_eq_getD, sameLines_lineByte hlines, bufferByte_none hb, groundByte_congr hc hj hq]
  by_cases hp : sectorOf p = sec
  · obtain ⟨k, rfl⟩ := exists_sectorPage hp
    rw [bufferByte_loaded hbt]
    cases hline : lineByte s (sectorPage sec k) x with
    | some b => rfl
    | none => exact himg k x hline
  · rw [bufferByte_elsewhere hbt hp]

theorem image_set_get (img : Image) (k m : Fin 16) (page : Page) :
    (img.set k page)[m] = if m = k then page else img[m] := by
  by_cases h : m = k
  · subst h
    simp
  · rw [if_neg h]
    exact Vector.getElem_set_ne k.2 m.2 fun e => h (Fin.ext e.symm)

/-- A line laid over an image changes no byte that it does not hold (R71). -/
theorem layLine_get {s : State} {img : Image} {i : LineNo} {k : Fin 16} {x : Fin 64}
    (h : ∀ p, s.lines[i].page = some p → pageInSector p = k → s.lines[i].staged[x] = none) :
    (layLine s img i)[k][x] = img[k][x] := by
  unfold layLine
  split
  · next p hp =>
    rw [image_set_get]
    split
    · next hk =>
      subst hk
      have hstaged := h p hp rfl
      simp only [overlay, Fin.getElem_fin, Vector.getElem_ofFn] at hstaged ⊢
      rw [hstaged]
      rfl
    · rfl
  · rfl

theorem layLines_get {s : State} {img : Image} {k : Fin 16} {x : Fin 64} {is : List LineNo}
    (h : ∀ i ∈ is, ∀ p, s.lines[i].page = some p → pageInSector p = k → s.lines[i].staged[x] = none) :
    (is.foldl (layLine s) img)[k][x] = img[k][x] := by
  induction is generalizing img with
  | nil => rfl
  | cons i is ih =>
    rw [List.foldl_cons, ih fun l hl => h l (List.mem_cons_of_mem _ hl), layLine_get (h i List.mem_cons_self)]

/-! ### MERGE and COPY -/

/-- COPY from any page on keeps reads under the LOADED buffer (R73, R74). -/
theorem copyFrom_readsAs {s : State} {j : Job} {img : Image} (hs : s.journalsInPlace) (hc : s.journalClosed j.sector)
    (hb : s.buffer = .loaded j.sector img) (image : Image) (k : Nat) : s.readsAs (copyFrom s j image k) := by
  have hserves := journalServes_of_closed hc
  have htouch : s.touchesOnly (setJournal s (journalFor j.sector) .spent) j.sector := touchesOnly_closeJournal hserves nofun
  unfold copyFrom startHeader
  split
  · exact readsAs_of_loaded hs hserves hb (touchesOnly_of_frame htouch) (linesOver_of_sameLines (sameLines_of_eq rfl rfl) _ _)
  · exact readsAs_of_loaded hs hserves hb (touchesOnly_of_frame htouch) (linesOver_of_sameLines (sameLines_of_eq rfl rfl) _ _)

/-- A line in use of a page that gives no byte holds none there. -/
theorem staged_none_of_lineByte_none {s : State} (h : s.linesLaw) {i : LineNo} {p : PageNo} {x : Fin 64}
    (hi : s.lines[i].state ≠ .free) (hp : s.lines[i].page = some p) (hn : lineByte s p x = none) : s.lines[i].staged[x] = none := by
  obtain hfree | hpage | hstaged := lineByte_eq_none_iff.1 hn i ((mem_ageList_iff h).2 hi)
  · exact absurd hfree hi
  · exact absurd hp hpage
  · exact hstaged

/-- MERGE keeps reads: where no line holds a byte the merged image holds the cells' (R71). -/
theorem merge_readsAs {s : State} (hl : s.linesLaw) (hs : s.journalsInPlace) (hb : s.unloaded) {j : Job}
    (hhead : ∀ i ∈ j.head, s.lines[i].state ≠ .free ∧ ∀ p ∈ s.lines[i].page, sectorOf p = j.sector)
    (hc : s.journalClosed j.sector) {img : Image}
    (himg : ∀ k : Fin 16, img[k] = readCells s.cells (.user (sectorPage j.sector k))) : s.readsAs (merge s j img) := by
  unfold merge
  dsimp only
  generalize himage : (linesToAbsorb s j.sector).foldl (layLine s) (j.head.toList.foldl (layLine s) img) = image
  generalize hu : (linesToAbsorb s j.sector).foldl takeLine s = u
  have hlines : s.sameLines u := hu ▸ takeLines_sameLines fun i hi => linesToAbsorb_not_free hl hi
  have hjournals : u.journals = s.journals := by simp [← hu]
  have hplace : State.journalsInPlace { u with buffer := .loaded j.sector image } := journalsInPlace_of_journals hs hjournals
  have hclosed : State.journalClosed { u with buffer := .loaded j.sector image } j.sector :=
    journalClosed_of_journals hc hjournals
  have hcopy := copyFrom_readsAs (img := image)
    (j := { j with members := j.members ++ linesToAbsorb s j.sector, copyCheck := some (imageSum image), loop := none })
    hplace hclosed rfl image 0
  refine readsAs_trans ?_ hcopy
  refine readsAs_of_assembled hb (sameLines_trans hlines (sameLines_of_eq rfl rfl)) (fun k x hnone => ?_) rfl (by simp [← hu])
    hjournals (by simp [← hu])
  have hlaid : ∀ i : LineNo, s.lines[i].state ≠ .free → (∀ p ∈ s.lines[i].page, sectorOf p = j.sector) →
      ∀ p, s.lines[i].page = some p → pageInSector p = k → s.lines[i].staged[x] = none := by
    rintro i hi hsec p hp rfl
    obtain ⟨m, rfl⟩ := exists_sectorPage (hsec p hp)
    rw [pageInSector_sectorPage] at hnone
    exact staged_none_of_lineByte_none hl hi hp hnone
  have hcells : groundByte s (sectorPage j.sector k) x = (readCells s.cells (.user (sectorPage j.sector k)))[x] := by
    refine groundByte_eq_readCells ?_ x
    rw [sectorOf_sectorPage]
    exact groundIsCells_of_closed hs hc
  rw [← himage, layLines_get, layLines_get, hcells, himg]
  · intro i hi
    obtain ⟨hused, hsec⟩ := hhead i (Option.mem_toList.1 hi)
    exact hlaid i hused hsec
  · intro i hi
    refine hlaid i (linesToAbsorb_not_free hl hi) fun p hp => ?_
    have hany := (List.mem_filter.1 hi).2
    rw [Option.mem_def.1 hp] at hany
    simpa using hany

theorem mergeHandsOver_readsAs {s t : State} {c : Instr} {j : Job} (hl : s.linesLaw) (hs : s.journalsInPlace) (hj : s.job = some j)
    (he : exec c s = .next t) (h : s.mergeHandsOver c j) : s.readsAs t := by
  obtain ⟨i, img, rfl, hop, hst, hloop, hhead, -, hi, hsec, hb, himg, -, hc⟩ := h
  refine readPageComplete_readsAs hop hj he ?_
  simp only [jobReads, hloop, hst, loadNext, (show (removeOp s).buffer = .assembling j.sector img from hb)]
  rw [dif_neg (by decide)]
  refine merge_readsAs (s := removeOp s) hl hs (unloaded_of_assembling hb) (fun l hl => ?_) hc fun k => ?_
  · obtain rfl := Option.some.inj (hhead.symm.trans hl)
    refine ⟨?_, hsec⟩
    rw [show (removeOp s).lines[i].state = .committing from hi]
    simp
  · rw [image_set_get]
    split
    · next hk => rw [hk]; rfl
    · next hk => exact himg k (by omega)

/-- COPY, HEADER or SCRUB ends the rewrite: the buffer differs from the cells only under a line of the job, which stays as FAILED
(R75, R88). -/
theorem copyStepFails_readsAs {s : State} (hl : s.linesLaw) (hs : s.journalsInPlace) {j : Job} {img : Image}
    (hb : s.buffer = .loaded j.sector img) (hc : s.journalClosed j.sector)
    (himg : ∀ (k : Fin 16) (x : Fin 64),
      (∀ l : LineNo, s.heldBy j l = true → s.lines[l].page ≠ some (sectorPage j.sector k) ∨ s.lines[l].staged[x] = none) →
      img[k][x] = Memory.read s.cells (64 * (16 * j.sector.val + k.val) + x.val))
    (step : FailedStep) {after : JournalState} (hafter : ∀ r, after ≠ .openFor r) : s.readsAs (copyStepFails s j step after) := by
  have hserves := journalServes_of_closed hc
  unfold copyStepFails
  generalize hu : appendFault (handBackFailed s (jobLines j)) _ = u
  have hframe : s.touchesOnly u j.sector := hu ▸ touchesOnly_of_frame (touchesOnly_refl hserves)
  have hlines : s.sameLines u := hu ▸ sameLines_trans (handBackFailed_sameLines s _) (sameLines_of_eq rfl rfl)
  have hlaw : u.linesLaw := by
    rw [← hu]
    exact linesLaw_of_frame (handBackFailed_linesLaw hl (jobLines j))
  have htouch : s.touchesOnly (setJournal u (journalFor j.sector) after) j.sector :=
    touchesOnly_setJournal hframe fun r hr => absurd hr (hafter r)
  refine endJob_readsAs_of_loaded hs hserves hb (linesLaw_of_frame hlaw) htouch (linesOver_of_sameLines ?_ _ _) fun k x hnone => ?_
  · exact sameLines_trans hlines (sameLines_of_eq rfl rfl)
  · have hline : lineByte s (sectorPage j.sector k) x = none := by
      obtain hn | hn := hnone
      · exact hn
      · rw [← sameLines_lineByte hlines]
        exact hn
    rw [groundByte_of_cells (groundIsCells_of_closed (touchesOnly_journalsInPlace hs htouch) (journalClosed_setJournal hafter)),
      htouch.cells, himg]
    intro l hheld
    by_cases hp : s.lines[l].page = some (sectorPage j.sector k)
    · refine Or.inr (staged_none_of_lineByte_none hl ?_ hp hline)
      have hst : s.lines[l].state = .committing := by simpa [-Fin.getElem_fin] using (Bool.and_eq_true_iff.1 hheld).1
      simp [-Fin.getElem_fin, hst]
    · exact Or.inl hp

theorem copyHandsOver_readsAs {s t : State} {c : Instr} {j : Job} (hl : s.linesLaw) (hs : s.journalsInPlace) (hj : s.job = some j)
    (he : exec c s = .next t) (h : s.copyHandsOver c j) : s.readsAs t := by
  obtain ⟨img, hb, -, hc, himg, hstep⟩ := h
  have hfails : ∀ (step : FailedStep) (after : JournalState), (∀ r, after ≠ .openFor r) →
      (removeOp s).readsAs (copyStepFails (removeOp s) { j with loop := none } step after) := fun step after hafter =>
    copyStepFails_readsAs (s := removeOp s) (j := { j with loop := none }) hl hs hb hc himg step hafter
  obtain ⟨k, image, latch, n, rfl, hop, hst, hloop⟩ | ⟨image, latch, n, rfl, hop, hst, hloop⟩ | ⟨n, rfl, hop, hst, hloop⟩ := hstep
  · refine readPageComplete_readsAs hop hj he (jobReads_verify_readsAs hloop (fun _ => ?_) fun cause => ?_)
    · simp only [programSucceeds, hst, (show (removeOp s).buffer = .loaded j.sector img from hb)]
      exact copyFrom_readsAs (s := removeOp s) (j := { j with loop := none }) hs hc hb _ _
    · simp only [programFails, hst]
      exact hfails _ _ nofun
  · refine readPageComplete_readsAs hop hj he (jobReads_verify_readsAs hloop (fun _ => ?_) fun cause => ?_)
    · simp only [programSucceeds, hst]
      exact readsAs_of_frame
    · simp only [programFails, hst]
      exact hfails _ _ nofun
  · refine blankCheckComplete_readsAs hop hj he (jobBlankCheck_readsAs hloop ?_ ?_ _)
    · simp only [eraseSucceeds, hst]
      exact hfails _ _ nofun
    · simp only [eraseFails, hst]
      exact hfails _ _ nofun

/-! ### COPY_DONE -/

/-- The journal becomes OPEN for the sector under the LOADED buffer (R74). -/
theorem copyDoneSucceeds_readsAs {s : State} (hs : s.journalsInPlace) {j : Job} (hc : s.journalClosed j.sector) {img : Image}
    (hb : s.buffer = .loaded j.sector img) : s.readsAs (copyDoneSucceeds s j) := by
  have hserves := journalServes_of_closed hc
  have htouch : s.touchesOnly (setJournal s (journalFor j.sector) (.openFor j.sector)) j.sector :=
    touchesOnly_setJournal (touchesOnly_refl hserves) fun r hr => (JournalState.openFor.inj hr).symm
  exact readsAs_of_loaded (t := copyDoneSucceeds s j) hs hserves hb (touchesOnly_of_frame htouch rfl rfl rfl)
    (linesOver_of_sameLines (sameLines_of_eq rfl rfl) _ _) rfl

theorem journalOpens_readsAs {s t : State} {c : Instr} {j : Job} (hs : s.journalsInPlace) (hj : s.job = some j)
    (he : exec c s = .next t) (h : s.journalOpens c j) : s.readsAs t := by
  obtain ⟨image, latch, n, img, rfl, hop, hst, hloop, hb, hc⟩ := h
  refine readPageComplete_readsAs hop hj he (jobReads_verify_readsAs hloop (fun _ => ?_) fun cause => ?_)
  · simp only [programSucceeds, hst]
    exact copyDoneSucceeds_readsAs (s := removeOp s) (j := { j with loop := none }) hs hc hb
  · simp only [programFails, hst]
    exact readsAs_of_frame

/-! ### The copy load of a RESTORE -/

/-- The copy load keeps reads: the image it leaves LOADED is the copy, the ground of the sector (R86, R108). -/
theorem loadCopyNext_readsAs {s : State} (hs : s.journalsInPlace) {j : Job} {k : Fin 16} {img : Image}
    (hb : s.buffer = .assembling j.sector img)
    (himg : ∀ m : Fin 16, m < k → img[m] = readCells s.cells (copyPage (journalFor j.sector) m))
    (hg : ¬ s.groundIsCells j.sector) :
    s.readsAs (loadCopyNext s j k (readCells s.cells (copyPage (journalFor j.sector) k))) := by
  have hun := unloaded_of_assembling hb
  simp only [loadCopyNext, hb]
  split
  · exact readsAs_of_unloaded (sameLines_of_eq rfl rfl) hun fun _ _ he => by cases he
  · next hlast =>
    refine readsAs_of_assembled hun (sameLines_of_eq rfl rfl) (fun m x _ => ?_) rfl
    have hpage : (img.set k (readCells s.cells (copyPage (journalFor j.sector) k)))[m] =
        readCells s.cells (copyPage (journalFor j.sector) m) := by
      rw [image_set_get]
      split
      · next hm => rw [hm]
      · next hm => exact himg m (by omega)
    rw [hpage, readCells_get, groundByte_of_copy hs hg]
    rfl

theorem copyLoadHandsOver_readsAs {s t : State} {c : Instr} {j : Job} (hs : s.journalsInPlace) (hj : s.job = some j)
    (he : exec c s = .next t) (h : s.copyLoadHandsOver c j) : s.readsAs t := by
  obtain ⟨k, img, rfl, hop, hst, hloop, hb, himg, -, hg⟩ := h
  refine readPageComplete_readsAs hop hj he ?_
  simp only [jobReads, hloop, hst]
  exact loadCopyNext_readsAs (s := removeOp s) hs hb himg hg

end Sys2Proof.Machine
end

section
/-! PROOF. What keeps reads, VI: the target steps of a rewrite and of a RESTORE, RETIRE, the quarantine of a failed target, and CLOSE (R76 to
R80, R109 to R111). -/

namespace Sys2Proof.Machine

set_option Elab.async false

theorem journalServes_of_open {s : State} {sec : SectorNo} (h : journalState s (journalFor sec) = .openFor sec) :
    s.journalServes sec := fun _ hr => JournalState.openFor.inj (hr.symm.trans h)

/-! ### RETIRE -/

/-- The lines a rewrite holds lie in its sector, over lines of their pages that it holds too, and the image has each byte of theirs that
no newer line of the job holds. -/
def State.imageHoldsLines (s : State) (j : Job) (img : Image) : Prop :=
  ∀ (older newer : List LineNo) (l : LineNo) (p : PageNo), s.ageList = older ++ l :: newer → s.heldBy j l = true →
    s.lines[l].page = some p →
    sectorOf p = j.sector ∧ (∀ n ∈ older, s.lines[n].page = some p → s.heldBy j n = true) ∧
    ∀ (x : Fin 64) (b : Byte), s.lines[l].staged[x] = some b →
      (∀ n ∈ newer, s.heldBy j n = true → s.lines[n].page ≠ some p ∨ s.lines[n].staged[x] = none) →
      img[pageInSector p][x] = b

/-- Retiring the lines of a rewrite keeps every byte over its image (R79). -/
theorem handBackRetired_linesOver {s : State} (hl : s.linesLaw) (hf : s.holdsForLine = false) {j : Job} {img : Image}
    (h : s.imageHoldsLines j img) : s.linesOver (handBackRetired s (jobLines j)) j.sector img := by
  intro p x d hd
  refine handBackRetired_getD hl hf fun older l newer b hage hheld hgives hnewer => ?_
  obtain ⟨-, hpage, hstaged⟩ := lineGives_eq_some hgives
  obtain ⟨hsec, holder, himg⟩ := h older newer l p hage hheld hpage
  refine ⟨fun n hn hout => lineGives_of_page_ne (fun hp => ?_) x, ?_⟩
  · rw [holder n hn hp] at hout
    cases hout
  · rw [hd hsec]
    refine (himg x b hstaged fun n hn hnheld => ?_).symm
    by_cases hp : s.lines[n].page = some p
    · have hst : s.lines[n].state = .committing := by simpa [-Fin.getElem_fin] using (Bool.and_eq_true_iff.1 hnheld).1
      refine Or.inr ?_
      rw [← lineGives_of_used (by simp [-Fin.getElem_fin, hst]) hp]
      exact hnewer n hn
    · exact Or.inl hp

theorem linesOver_of_sameLines_right {s t u : State} {sec : SectorNo} {img : Image} (h : s.linesOver t sec img) (h' : t.sameLines u) :
    s.linesOver u sec img := fun p x d hd => by
  rw [sameLines_lineByte h']
  exact h p x d hd

/-! ### The target steps -/

/-- RETIRE and the start of CLOSE keep reads (R79, R80). -/
theorem retireAndClose_readsAs {s : State} (hl : s.linesLaw) (hs : s.journalsInPlace) (hf : s.holdsForLine = false) {j : Job}
    {img : Image} (hb : s.buffer = .loaded j.sector img) (hopen : journalState s (journalFor j.sector) = .openFor j.sector)
    (hlines : s.imageHoldsLines j img) : s.readsAs (retireAndClose s j) := by
  have hserves := journalServes_of_open hopen
  unfold retireAndClose
  refine readsAs_of_loaded hs hserves hb (touchesOnly_of_frame (touchesOnly_refl hserves)) ?_
  exact linesOver_of_sameLines_right (handBackRetired_linesOver hl hf hlines) (sameLines_of_eq rfl rfl)

/-- TARGET_PROGRAM from any page on keeps reads (R77, R79, R109). -/
theorem programFrom_readsAs {s : State} (hl : s.linesLaw) (hs : s.journalsInPlace) (hf : s.holdsForLine = false) {j : Job}
    {img : Image} (hb : s.buffer = .loaded j.sector img) (hopen : journalState s (journalFor j.sector) = .openFor j.sector)
    (hlines : j.kind = .rewrite → s.imageHoldsLines j img) (k : Nat) : s.readsAs (programFrom s j k) := by
  simp only [programFrom, hb]
  split
  · exact readsAs_of_frame
  · unfold targetProgrammed
    split
    · next hk => exact retireAndClose_readsAs hl hs hf hb hopen (hlines hk)
    · exact readsAs_of_frame

/-- A job that ends with its sector quarantined with ground COPY keeps reads: the copy holds what the buffer held (R78, R111). -/
theorem endJob_readsAs_of_copy {s u : State} {sec : SectorNo} {img : Image} (hs : s.journalsInPlace)
    (hopen : journalState s (journalFor sec) = .openFor sec) (hb : s.buffer = .loaded sec img)
    (hcopy : ∀ (k : Fin 16) (x : Fin 64), Memory.read s.cells (journalBase (journalFor sec) + 64 * (k.val + 1) + x.val) = img[k][x])
    (hlaw : u.linesLaw) (hl : s.linesOver u sec img) (hc : u.cells = s.cells := by simp) (hj : u.journals = s.journals := by simp)
    (hq : u.quarantine = (setQuarantine s sec .copy).quarantine := by simp) : s.readsAs (endJob u) := by
  have hserves := journalServes_of_open hopen
  have htouch : s.touchesOnly u sec :=
    touchesOnly_of_frame (touchesOnly_setQuarantine (touchesOnly_refl hserves) .copy) hc hj hq
  refine endJob_readsAs_of_loaded hs hserves hb hlaw htouch hl fun k x _ => ?_
  have hground : groundByte u (sectorPage sec k) x = groundByte (setQuarantine s sec .copy) (sectorPage sec k) x :=
    groundByte_congr (s := setQuarantine s sec .copy) hc hj hq _ x
  rw [hground, groundByte_of_copy (s := setQuarantine s sec .copy) hs (not_groundIsCells_setQuarantine_copy hopen)]
  exact hcopy k x

/-- A rewrite that fails on its target keeps reads: its lines retire over the copy, and those cascaded stay as FAILED (R78, R105). -/
theorem rewriteTargetFails_readsAs {s : State} (hl : s.linesLaw) (hs : s.journalsInPlace) (hf : s.holdsForLine = false) {j : Job}
    {img : Image} (hb : s.buffer = .loaded j.sector img) (hopen : journalState s (journalFor j.sector) = .openFor j.sector)
    (hcopy : ∀ (k : Fin 16) (x : Fin 64),
      Memory.read s.cells (journalBase (journalFor j.sector) + 64 * (k.val + 1) + x.val) = img[k][x])
    (hlines : s.imageHoldsLines j img) (step : FaultStep) (n : Nat) : s.readsAs (rewriteTargetFails s j step n) := by
  have hretired : s.linesOver (handBackRetired (setQuarantine s j.sector .copy) (jobLines j)) j.sector img :=
    handBackRetired_linesOver (s := setQuarantine s j.sector .copy) hl hf hlines
  have hlaw : (handBackRetired (setQuarantine s j.sector .copy) (jobLines j)).linesLaw :=
    handBackRetired_linesLaw (s := setQuarantine s j.sector .copy) hl _
  unfold rewriteTargetFails
  refine endJob_readsAs_of_copy hs hopen hb hcopy (linesLaw_of_frame (entryCascade_linesLaw hlaw j.sector)) ?_
  exact linesOver_of_sameLines_right (linesOver_of_sameLines_right hretired (entryCascade_sameLines _ j.sector))
    (sameLines_of_eq rfl rfl)

/-- A RESTORE that fails on its target keeps reads (R111). -/
theorem recoveryTargetFails_readsAs {s : State} (hl : s.linesLaw) (hs : s.journalsInPlace) {j : Job} {img : Image}
    (hb : s.buffer = .loaded j.sector img) (hopen : journalState s (journalFor j.sector) = .openFor j.sector)
    (hcopy : ∀ (k : Fin 16) (x : Fin 64),
      Memory.read s.cells (journalBase (journalFor j.sector) + 64 * (k.val + 1) + x.val) = img[k][x])
    (hk : j.kind = .restore) (step : FaultStep) (n : Nat) : s.readsAs (recoveryTargetFails s j step n) := by
  unfold recoveryTargetFails
  rw [if_neg (by simp [hk])]
  exact endJob_readsAs_of_copy hs hopen hb hcopy (linesLaw_of_frame hl) (linesOver_of_sameLines (sameLines_of_eq rfl rfl) _ _)

theorem targetHandsOver_readsAs {s t : State} {c : Instr} {j : Job} (hl : s.linesLaw) (hs : s.journalsInPlace)
    (hf : s.holdsForLine = false) (hj : s.job = some j) (he : exec c s = .next t) (h : s.targetHandsOver c j) : s.readsAs t := by
  obtain ⟨img, hb, hopen, hstep, hcopy, hkind⟩ := h
  have hlines : j.kind = .rewrite → s.imageHoldsLines j img := fun hk => by
    obtain hr | ⟨-, hheld⟩ := hkind
    · rw [hr] at hk
      cases hk
    · exact hheld
  have hprogram : ∀ (st : Stage) (k : Nat),
      (removeOp s).readsAs (programFrom (removeOp s) { j with stage := st, loop := none } k) := fun st k =>
    programFrom_readsAs (s := removeOp s) (j := { j with stage := st, loop := none }) hl hs hf hb hopen hlines k
  have hfails : ∀ (step : FaultStep) (n : Nat), (removeOp s).readsAs (targetFails (removeOp s) { j with loop := none } step n) := by
    intro step n
    unfold targetFails
    split
    · next hk =>
      exact rewriteTargetFails_readsAs (s := removeOp s) (j := { j with loop := none }) hl hs hf hb hopen hcopy (hlines hk) step n
    · next hk =>
      exact recoveryTargetFails_readsAs (s := removeOp s) (j := { j with loop := none }) hl hs hb hopen hcopy
        (hkind.resolve_right fun hw => hk hw.1) step n
  obtain ⟨k, image, latch, n, rfl, hop, hst, hloop⟩ | ⟨n, rfl, hop, hst, hloop⟩ := hstep
  · refine readPageComplete_readsAs hop hj he (jobReads_verify_readsAs hloop (fun _ => ?_) fun cause => ?_)
    · simp only [programSucceeds, hst]
      exact hprogram _ _
    · simp only [programFails, hst]
      exact hfails _ n
  · refine blankCheckComplete_readsAs hop hj he (jobBlankCheck_readsAs hloop ?_ ?_ _)
    · rw [eraseSucceeds_targetErase (j := { j with loop := none }) hst]
      exact hprogram _ _
    · simp only [eraseFails, hst]
      exact hfails _ n

/-! ### CLOSE -/

/-- A job that ends with the cells its sector's ground keeps reads where they hold what the buffer held (R80, R111). -/
theorem endJob_readsAs_of_cells {s u : State} {sec : SectorNo} {img : Image} (hs : s.journalsInPlace) (hserves : s.journalServes sec)
    (hb : s.buffer = .loaded sec img)
    (hcells : ∀ (k : Fin 16) (x : Fin 64), Memory.read s.cells (64 * (16 * sec.val + k.val) + x.val) = img[k][x])
    (hlaw : u.linesLaw) (hlines : s.sameLines u) (ht : s.touchesOnly u sec) (hg : u.groundIsCells sec) : s.readsAs (endJob u) := by
  refine endJob_readsAs_of_loaded hs hserves hb hlaw ht (linesOver_of_sameLines hlines _ _) fun k x _ => ?_
  rw [groundByte_of_cells hg, ht.cells]
  exact hcells k x

/-- What the close of a job finds: the buffer LOADED with what the cells of its sector hold, the journal OPEN for it. -/
structure State.closing (s : State) (sec : SectorNo) (img : Image) : Prop where
  lines : s.linesLaw
  inPlace : s.journalsInPlace
  buffer : s.buffer = .loaded sec img
  journal : journalState s (journalFor sec) = .openFor sec
  cells : ∀ (k : Fin 16) (x : Fin 64), Memory.read s.cells (64 * (16 * sec.val + k.val) + x.val) = img[k][x]

/-- The job ends with its journal no longer OPEN, whatever becomes of its record (R80, R111). -/
theorem endJob_readsAs_of_closed {s u : State} {sec : SectorNo} {img : Image} (h : s.closing sec img) {after : JournalState}
    (hafter : ∀ r, after ≠ .openFor r) (ht : s.touchesOnly u sec)
    (hj : u.journals = (setJournal s (journalFor sec) after).journals := by simp) (hl : u.lines = s.lines := by simp)
    (ha : u.ageList = s.ageList := by simp) (hc : u.commitQueue = s.commitQueue := by simp) : s.readsAs (endJob u) := by
  refine endJob_readsAs_of_cells h.inPlace (journalServes_of_open h.journal) h.buffer h.cells (linesLaw_of_frame h.lines hl ha hc)
    (sameLines_of_eq hl ha) ht (groundIsCells_of_closed (touchesOnly_journalsInPlace h.inPlace ht) ?_)
  exact journalClosed_of_journals (journalClosed_setJournal hafter) hj

/-- The job ends with its sector quarantined with ground CELLS (R80, R111). -/
theorem endJob_readsAs_of_quarantined {s u : State} {sec : SectorNo} {img : Image} (h : s.closing sec img) (hlaw : u.linesLaw)
    (hlines : s.sameLines u) (hc : u.cells = s.cells := by simp) (hj : u.journals = s.journals := by simp)
    (hq : u.quarantine = (setQuarantine s sec .cells).quarantine := by simp) : s.readsAs (endJob u) := by
  have hserves := journalServes_of_open h.journal
  refine endJob_readsAs_of_cells h.inPlace hserves h.buffer h.cells hlaw hlines
    (touchesOnly_of_frame (touchesOnly_setQuarantine (touchesOnly_refl hserves) .cells) hc hj hq) ?_
  obtain hn | hr := groundIsCells_setQuarantine_cells s sec
  · exact absurd h.journal (hn _)
  · refine Or.inr ?_
    rwa [hq]

theorem endJob_setJournal_readsAs {s : State} {sec : SectorNo} {img : Image} (h : s.closing sec img) {after : JournalState}
    (hafter : ∀ r, after ≠ .openFor r) : s.readsAs (endJob (setJournal s (journalFor sec) after)) :=
  endJob_readsAs_of_closed h hafter (touchesOnly_closeJournal (journalServes_of_open h.journal) hafter)

/-- The close step of a RESTORE succeeds (R111). -/
theorem closeStepSucceeds_readsAs {s : State} {j : Job} {img : Image} (h : s.closing j.sector img) (hk : j.kind = .restore)
    {after : JournalState} (hafter : ∀ r, after ≠ .openFor r) : s.readsAs (closeStepSucceeds s j after) := by
  have htouch := touchesOnly_clearQuarantine (touchesOnly_closeJournal (journalServes_of_open h.journal) hafter)
  simp only [closeStepSucceeds, hk]
  exact endJob_readsAs_of_closed h hafter (touchesOnly_of_frame htouch)

/-- A rewrite or a RESTORE whose close step, mark and fallback erase, fails (R80, R111). -/
theorem rewriteCloseFails_readsAs {s : State} {j : Job} {img : Image} (h : s.closing j.sector img) (n : Nat) :
    s.readsAs (rewriteCloseFails s j n) := by
  have hlaw : (entryCascade (setQuarantine s j.sector .cells) j.sector).linesLaw :=
    entryCascade_linesLaw (s := setQuarantine s j.sector .cells) h.lines _
  unfold rewriteCloseFails
  refine endJob_readsAs_of_quarantined h (linesLaw_of_frame hlaw) ?_
  exact sameLines_trans (entryCascade_sameLines (setQuarantine s j.sector .cells) j.sector) (sameLines_of_eq rfl rfl)

theorem closeStepFails_readsAs {s : State} {j : Job} {img : Image} (h : s.closing j.sector img) (hk : j.kind = .restore) (n : Nat) :
    s.readsAs (closeStepFails s j n) := by
  unfold closeStepFails
  rw [if_neg (by simp [hk])]
  exact endJob_readsAs_of_quarantined h (linesLaw_of_frame h.lines) (sameLines_of_eq rfl rfl)

/-- The read of the header by a RESTORE's close step: the mark stands, or is programmed (R110). -/
theorem closeHeaderRead_readsAs {s : State} {j : Job} {img : Image} (h : s.closing j.sector img) (hk : j.kind = .restore)
    (header : Page) : s.readsAs (closeHeaderRead s j header) := by
  unfold closeHeaderRead
  split
  · exact closeStepSucceeds_readsAs h hk nofun
  · exact readsAs_of_frame

theorem closeHandsOver_readsAs {s t : State} {c : Instr} {j : Job} (hl : s.linesLaw) (hs : s.journalsInPlace) (hj : s.job = some j)
    (he : exec c s = .next t) (h : s.closeHandsOver c j) : s.readsAs t := by
  obtain ⟨img, hb, hopen, hkind, hstep, hcells⟩ := h
  have hclosing : (removeOp s).closing j.sector img := ⟨hl, hs, hb, hopen, hcells⟩
  obtain ⟨image, latch, n, rfl, hop, hst, hloop⟩ | ⟨rfl, hop, hk, hst, hloop⟩ | ⟨n, rfl, hop, hst, hloop⟩ := hstep
  · refine readPageComplete_readsAs hop hj he (jobReads_verify_readsAs hloop (fun _ => ?_) fun cause => ?_)
    · simp only [programSucceeds, hst]
      split
      · exact endJob_setJournal_readsAs hclosing nofun
      · next hk => exact closeStepSucceeds_readsAs (j := { j with loop := none }) hclosing (hkind.resolve_left hk) nofun
    · simp only [programFails, hst]
      exact readsAs_of_frame
  · refine readPageComplete_readsAs hop hj he ?_
    simp only [jobReads, hloop, hst]
    exact closeHeaderRead_readsAs hclosing hk _
  · refine blankCheckComplete_readsAs hop hj he (jobBlankCheck_readsAs hloop ?_ ?_ _)
    · simp only [eraseSucceeds, hst]
      split
      · exact endJob_setJournal_readsAs hclosing nofun
      · next hk => exact closeStepSucceeds_readsAs (j := { j with loop := none }) hclosing (hkind.resolve_left hk) nofun
    · simp only [eraseFails, hst]
      split
      · exact rewriteCloseFails_readsAs (j := { j with loop := none }) hclosing n
      · next hk => exact closeStepFails_readsAs (j := { j with loop := none }) hclosing (hkind.resolve_left hk) n

/-! ### The obligation -/

/-- Settles O51: seals, ages, starts and the link by command; a completion by the stage of its job; a pulse by what covers it. -/
theorem otherCommandsKeepReads : Obligations.OtherCommandsKeepReads := by
  refine ⟨fun c s t hk hr hl hb he => exec_readsAs_of_keepsReads hk hr hl (fun sec img => hb sec img) he,
    fun c s t j hl hrec hf hj he h => ?_, fun left s t hl hwf he hcov => ?_⟩
  · have hs := recordsLaw_journalsInPlace hrec
    obtain h | h | h | h | h | h | h | h := h
    · exact commitHandsOver_readsAs hl hf hj he h
    · exact loadHandsOver_readsAs hl hs hj he h
    · exact mergeHandsOver_readsAs hl hs hj he h
    · exact copyHandsOver_readsAs hl hs hj he h
    · exact journalOpens_readsAs hs hj he h
    · exact copyLoadHandsOver_readsAs hs hj he h
    · exact targetHandsOver_readsAs hl hs hf hj he h
    · exact closeHandsOver_readsAs hl hs hj he h
  · obtain rfl := Host.Outcome.next.inj he
    exact pulseExpires_readsAs hl hwf hcov left

end Sys2Proof.Machine
end

section
/-! PROOF. The program loops of a rewrite: the outcomes of a verify, and what each stage makes of one that reads its image (R51, R66, R73,
R74, R76, R77, R79, R80). -/

namespace Sys2Proof.Machine

set_option Elab.async false

/-! ### The outcomes of a verify -/

theorem lacksOneBit_iff {image read : Page} : lacksOneBit image read = true ↔ ∃ x : Fin 64, image[x] &&& ~~~read[x] ≠ 0#8 := by
  simp [lacksOneBit]

theorem not_lacksOneBit_self (p : Page) : lacksOneBit p p = false := by
  simp [lacksOneBit]

/-- A program loop that fails does so with its cause (R51, R53). -/
theorem verdictOf_of_loopFails {s : State} {cp : CellPage} {image : Page} {n : Nat} {cause : LoopFailure}
    (h : s.loopFails cp image n cause) : verdictOf image (readCells s.cells cp) n s.settings.pgmMax = .failed cause := by
  obtain ⟨rfl, hbit⟩ | ⟨rfl, hne, hno, hmax⟩ := h
  · have hlacks := lacksOneBit_iff.2 hbit
    have hne : readCells s.cells cp ≠ image := fun he => by
      rw [he, not_lacksOneBit_self] at hlacks
      cases hlacks
    rw [verdictOf, if_neg hne, if_pos hlacks]
  · have hlacks : ¬ lacksOneBit image (readCells s.cells cp) = true := fun hl => by
      obtain ⟨x, hx⟩ := lacksOneBit_iff.1 hl
      exact hx (hno x)
    rw [verdictOf, if_neg hne, if_neg hlacks, if_neg (Nat.not_lt.2 hmax)]

/-- A page that reads its image ends the loop in SUCCESS (R51). -/
theorem exec_verify_succeeds {s u : State} {j : Job} {cp : CellPage} {image latch : Page} {n : Nat}
    (hop : s.op = some (.readPage cp)) (hj : s.job = some j) (hl : j.loop = some (.program cp image latch n))
    (hr : readCells s.cells cp = image) (hu : programSucceeds (removeOp s) { j with loop := none } = u) :
    exec .readPageComplete s = .next (evaluateHeldRead cp.target.bank u) := by
  rw [exec_readPageComplete_of_job hop hj, ← hu, jobReads, hl]
  simp only [verifyDone, verdictOf, if_pos hr]

/-- A loop that is DISTURBED or EXHAUSTED ends in failure (R51). -/
theorem exec_verify_fails {s u : State} {j : Job} {cp : CellPage} {image latch : Page} {n : Nat} {cause : LoopFailure}
    (hop : s.op = some (.readPage cp)) (hj : s.job = some j) (hl : j.loop = some (.program cp image latch n))
    (hf : s.loopFails cp image n cause) (hu : programFails (removeOp s) { j with loop := none } cause n = u) :
    exec .readPageComplete s = .next (evaluateHeldRead cp.target.bank u) := by
  rw [exec_readPageComplete_of_job hop hj, ← hu, jobReads, hl]
  simp only [verifyDone, removeOp_settings, verdictOf_of_loopFails hf]

/-- A page of a sector lies in the sector's bank (R2, R12). -/
theorem bank_sectorPage (sec : SectorNo) (k : Fin 16) : (CellPage.user (sectorPage sec k)).target.bank = bankOf sec := by
  simp only [CellPage.target, Target.bank, sectorOf_sectorPage]

/-! ### COPY and HEADER -/

theorem lowByte_sector (sec : SectorNo) : lowByte (BitVec.ofNat 16 sec.val) = BitVec.ofNat 8 sec.val := by
  unfold lowByte
  bv_omega

theorem highByte_sector (sec : SectorNo) : highByte (BitVec.ofNat 16 sec.val) = 0#8 := by
  have hsec : sec.val < 256 := sec.2
  unfold highByte
  bv_omega

theorem lowByte_append (high low : Byte) : lowByte (high ++ low) = low := BitVec.setWidth_append_eq_right

theorem highByte_append (high low : Byte) : highByte (high ++ low) = high := by
  unfold highByte
  ext i hi
  rw [BitVec.getElem_setWidth, BitVec.getLsbD_ushiftRight]
  exact BitVec.getLsbD_append.trans (by simp [BitVec.getLsbD_eq_getElem hi])

/-- The header image of a sector and a check is one page (R66, R171). -/
theorem headerImageOf_of_isHeaderImage {header : Page} {sec : SectorNo} {check : BitVec 16} (h : isHeaderImage header sec check) :
    headerImageOf sec check = header := by
  obtain ⟨hlow, hhigh, hcheck, hrest⟩ := h
  have himage : headerImageOf sec check =
      (((erasedPage.set 0 header[0]).set 1 header[1]).set 2 header[2]).set 3 header[3] := by
    rw [headerImageOf, lowByte_sector, highByte_sector, ← hcheck, lowByte_append, highByte_append, ← hlow, ← hhigh]
  rw [himage]
  apply Vector.ext
  intro n hn
  have hbyte : ¬ (3 = n ∨ 2 = n ∨ 1 = n ∨ 0 = n) → header[n] = 0xFF#8 := fun hne => hrest ⟨n, hn⟩ (show 4 ≤ n by omega)
  simp only [Vector.getElem_set, erasedPage, Vector.getElem_replicate]
  split_ifs with h3 h2 h1 h0
  · simp only [← h3]
  · simp only [← h2]
  · simp only [← h1]
  · simp only [← h0]
  · exact (hbyte (by omega)).symm

/-- COPY goes on with the next page that is not FFh throughout (R73). -/
theorem copyFrom_next {img : Image} {k : Nat} {m : Fin 16} (hm : isNextPage img k m) (s : State) (j : Job) :
    copyFrom s j img k =
      { s with
        journals := s.journals.set (journalBank (journalFor j.sector)) .spent,
        job := some { j with
          stage := .copy m, loop := some (.program (copyPage (journalFor j.sector) m) img[m] img[m] 1) },
        op := some (.programPulse (copyPage (journalFor j.sector) m) img[m] .setup) } := by
  simp only [copyFrom, nextPageToProgram_of_isNextPage hm, startProgram, latchFor_erasedPage]
  rfl

/-- With no page left COPY has ended, and HEADER begins (R73, R74). -/
theorem copyFrom_done {img : Image} {k : Nat} (hno : noPageLeft img k) (s : State) {j : Job} {check : BitVec 16}
    (hc : j.copyCheck = some check) {header : Page} (hh : isHeaderImage header j.sector check) :
    copyFrom s j img k =
      { s with
        journals := s.journals.set (journalBank (journalFor j.sector)) .spent,
        job := some { j with
          stage := .header, headerImage := some header
          loop := some (.program (headerPage (journalFor j.sector)) header header 1) },
        op := some (.programPulse (headerPage (journalFor j.sector)) header .setup) } := by
  simp only [copyFrom, nextPageToProgram_of_noPageLeft hno, startHeader, hc, Option.getD_some,
    headerImageOf_of_isHeaderImage hh, startProgram, latchFor_erasedPage]
  rfl

/-! ### The stages of a rewrite, each ended in SUCCESS -/

theorem programSucceeds_copy {s : State} {j : Job} {k : Fin 16} {sec : SectorNo} {img : Image} (hst : j.stage = .copy k)
    (hb : s.buffer = .loaded sec img) : programSucceeds s j = copyFrom s j img (k.val + 1) := by
  simp only [programSucceeds, hst, hb]

theorem programSucceeds_header {s : State} {j : Job} (hst : j.stage = .header) : programSucceeds s j = startCopyDone s j := by
  simp only [programSucceeds, hst]

theorem programSucceeds_copyDone {s : State} {j : Job} (hst : j.stage = .copyDone) :
    programSucceeds s j = copyDoneSucceeds s j := by
  simp only [programSucceeds, hst]

theorem programSucceeds_targetProgram {s : State} {j : Job} {k : Fin 16} (hst : j.stage = .targetProgram k) :
    programSucceeds s j = programFrom s j (k.val + 1) := by
  simp only [programSucceeds, hst]

theorem programSucceeds_close {s : State} {j : Job} (hst : j.stage = .close) (hk : j.kind = .rewrite) :
    programSucceeds s j = endJob (setJournal s (journalFor j.sector) .spent) := by
  simp only [programSucceeds, hst, if_pos hk]

/-- COPY_DONE is programmed over the header image (R74). -/
theorem startCopyDone_eq {j : Job} {header : Page} (hh : j.headerImage = some header) (s : State) :
    startCopyDone s j =
      startProgram s { j with stage := .copyDone, headerImage := some (header.set 4 0x00#8) }
        (headerPage (journalFor j.sector)) (header.set 4 0x00#8) header := by
  simp only [startCopyDone, hh, Option.getD_some]
  rfl

/-- Settles O29: each clause is the SUCCESS of one stage's loop. -/
theorem rewriteOpensTheJournalBeforeTheTarget : Obligations.RewriteOpensTheJournalBeforeTheTarget := by
  rintro s j _ cp image latch n hop hj hk rfl hl hr
  have hends := fun {u : State} => exec_verify_succeeds (u := u) hop hj hl hr
  refine ⟨?_, ?_, ?_, ?_, ?_⟩
  · rintro k sec img rfl hst hb
    have hcopy := programSucceeds_copy (s := removeOp s) (j := { j with loop := none }) hst hb
    refine ⟨fun m hm => ?_, fun hno header check hc hh => ?_⟩
    · exact hends (hcopy.trans (copyFrom_next hm _ _))
    · exact hends (hcopy.trans (copyFrom_done hno _ hc hh))
  · rintro header rfl hst hh
    exact hends ((programSucceeds_header hst).trans (startCopyDone_eq (j := { j with loop := none }) hh _))
  · rintro rfl hst
    exact hends (programSucceeds_copyDone hst)
  · rintro k sec img rfl hst hb
    have htarget := programSucceeds_targetProgram (s := removeOp s) (j := { j with loop := none }) hst
    rw [bank_sectorPage] at hends
    refine ⟨fun m hm => ?_, fun hno marked hmark hw => ?_⟩
    · refine hends (htarget.trans ?_)
      rw [programFrom_next (s := removeOp s) hb _ hm, startProgram, latchFor_erasedPage]
      rfl
    · refine ⟨_, hends (htarget.trans ?_), retireAndClose_spec hw hmark (.targetProgram k)⟩
      rw [programFrom_done (s := removeOp s) hb _ hno, targetProgrammed, if_pos hk, ← hst]
  · rintro rfl hst
    exact hends ((programSucceeds_close hst hk).trans rfl)

end Sys2Proof.Machine
end

section
/-! PROOF. MERGE: the lines absorbed, and the sector image with the lines of the job laid over it, the newest last (R70, R71, R73). -/

namespace Sys2Proof.Machine

set_option Elab.async false

/-! ### LOAD -/

/-- A page read by LOAD goes to the buffer (R70). -/
theorem exec_loadRead {s u : State} {j : Job} {k : Fin 16} (hop : s.op = some (.readPage (.user (sectorPage j.sector k))))
    (hj : s.job = some j) (hl : j.loop = none) (hst : j.stage = .load k)
    (hu : loadNext (removeOp s) j k (readCells s.cells (.user (sectorPage j.sector k))) = u) :
    exec .readPageComplete s = .next (evaluateHeldRead (bankOf j.sector) u) := by
  rw [exec_readPageComplete_of_job hop hj, bank_sectorPage, ← hu]
  simp only [jobReads, hl, hst]

theorem loadNext_page {s : State} {sec : SectorNo} {img : Image} (hb : s.buffer = .assembling sec img) (j : Job) {k : Fin 16}
    (h : k.val + 1 < 16) (page : Page) :
    loadNext s j k page =
      { s with
        job := some { j with stage := .load ⟨k.val + 1, h⟩ }, buffer := .assembling sec (img.set k page),
        op := some (.readPage (.user (sectorPage j.sector ⟨k.val + 1, h⟩))) } := by
  simp only [loadNext, hb, dif_pos h]
  rfl

theorem loadNext_last {s : State} {sec : SectorNo} {img : Image} (hb : s.buffer = .assembling sec img) (j : Job) (page : Page) :
    loadNext s j 15 page = merge s j (img.set 15 page) := by
  simp only [loadNext, hb]
  rw [dif_neg (by decide)]
  rfl

/-! ### The lines absorbed -/

/-- Taking several lines touches the lines and the queue alone. -/
theorem takeLines_eq (s : State) (is : List LineNo) :
    is.foldl takeLine s =
      { s with lines := (is.foldl takeLine s).lines, commitQueue := (is.foldl takeLine s).commitQueue } := by
  induction is generalizing s with
  | nil => rfl
  | cons i is ih =>
    rw [List.foldl_cons, ih]
    rfl

theorem sectorOf_of_mem_linesToAbsorb {s : State} {sec : SectorNo} {k : LineNo} (hk : k ∈ linesToAbsorb s sec) :
    ∀ p ∈ s.lines[k].page, sectorOf p = sec := by
  intro p hp
  have hany := (List.mem_filter.1 hk).2
  rw [Option.mem_def.1 hp] at hany
  simpa using hany

/-- `s` after MERGE with the sector image `image`: the lines absorbed COMMITTING and out of the queue, the buffer LOADED (R71). -/
def State.mergedWith (s : State) (sec : SectorNo) (image : Image) : State :=
  { s with
    lines := ((linesToAbsorb s sec).foldl takeLine s).lines
    commitQueue := s.commitQueue.filter fun k => !(linesToAbsorb s sec).contains k
    buffer := .loaded sec image }

/-- The sector image of MERGE: the lines laid over the sector as read, in their order (R71). -/
def State.mergedImage (s : State) (is : List LineNo) (base : Image) : Image := is.foldl (layLine s) base

/-- MERGE, by its two results: the state and the image (R71). -/
theorem merge_eq {s : State} (hq : s.commitQueue.Nodup) {j : Job} {i : LineNo} (hh : j.head = some i) (hm : j.members = [])
    (base : Image) {image : Image} (himage : s.mergedImage (i :: linesToAbsorb s j.sector) base = image) :
    merge s j base = copyFrom (s.mergedWith j.sector image)
      { j with members := linesToAbsorb s j.sector, copyCheck := some (imageSum image), loop := none } image 0 := by
  have htaken := takeLines_eq s (linesToAbsorb s j.sector)
  rw [takeLines_commitQueue s _ hq] at htaken
  unfold merge State.mergedWith
  dsimp only
  rw [hh, hm, htaken, ← himage]
  rfl

/-! ### The image -/

/-- The staged bytes of a line stand in the image once it is laid (R71). -/
theorem layLine_staged {s : State} {i : LineNo} {p : PageNo} {x : Fin 64} {b : Byte} (hp : s.lines[i].page = some p)
    (hx : s.lines[i].staged[x] = some b) (img : Image) : (layLine s img i)[pageInSector p][x] = b := by
  have hlaid : layLine s img i = img.set (pageInSector p) (overlay s.lines[i].staged img[pageInSector p]) := by
    simp only [layLine, hp]
  simp only [Fin.getElem_fin] at hx
  rw [hlaid, image_set_get, if_pos rfl]
  simp only [overlay, Fin.getElem_fin, Vector.getElem_ofFn, hx, Option.getD_some]

/-- Two pages of one sector that have one place in it are one page. -/
theorem eq_sectorPage_of_pageInSector {p : PageNo} {sec : SectorNo} {k : Fin 16} (hs : sectorOf p = sec)
    (hk : pageInSector p = k) : p = sectorPage sec k := by
  obtain ⟨m, rfl⟩ := exists_sectorPage hs
  rw [pageInSector_sectorPage] at hk
  rw [hk]

/-- Lines of one sector that do not hold a byte of a page leave it in the image (R71). -/
theorem mergedImage_unheld {s : State} {sec : SectorNo} {is : List LineNo} (hs : ∀ i ∈ is, ∀ p ∈ s.lines[i].page, sectorOf p = sec)
    {k : Fin 16} {x : Fin 64} (h : ∀ i ∈ is, s.lines[i].page ≠ some (sectorPage sec k) ∨ s.lines[i].staged[x] = none)
    (base : Image) : (s.mergedImage is base)[k][x] = base[k][x] := by
  refine layLines_get fun i hi p hp hk => (h i hi).resolve_left fun hne => hne ?_
  rw [hp, eq_sectorPage_of_pageInSector (hs i hi p hp) hk]

/-- A byte of a line stands in the image unless a newer line of the sector holds it (R71). -/
theorem mergedImage_held {s : State} {sec : SectorNo} {older newer : List LineNo} {l : LineNo} {p : PageNo} {x : Fin 64} {b : Byte}
    (hs : ∀ i ∈ l :: newer, ∀ p ∈ s.lines[i].page, sectorOf p = sec) (hp : s.lines[l].page = some p)
    (hx : s.lines[l].staged[x] = some b) (h : ∀ n ∈ newer, s.lines[n].page ≠ some p ∨ s.lines[n].staged[x] = none) (base : Image) :
    (s.mergedImage (older ++ l :: newer) base)[pageInSector p][x] = b := by
  have hsplit : s.mergedImage (older ++ l :: newer) base = s.mergedImage newer (layLine s (s.mergedImage older base) l) := by
    simp only [State.mergedImage, List.foldl_append, List.foldl_cons]
  have hpage := eq_sectorPage_of_pageInSector (hs l List.mem_cons_self p hp) rfl
  rw [hsplit, mergedImage_unheld (fun i hi => hs i (List.mem_cons_of_mem _ hi)) (hpage ▸ h), layLine_staged hp hx]

/-- The last page of LOAD: MERGE in the same step, and COPY begins (R70, R71, R73). -/
theorem exec_lastLoadRead {s u : State} {j : Job} {sec : SectorNo} {img image : Image} {i : LineNo} (hq : s.commitQueue.Nodup)
    (hop : s.op = some (.readPage (.user (sectorPage j.sector 15)))) (hj : s.job = some j) (hl : j.loop = none)
    (hst : j.stage = .load 15) (hb : s.buffer = .assembling sec img) (hh : j.head = some i) (hm : j.members = [])
    (himage : s.mergedImage (i :: linesToAbsorb s j.sector)
      (img.set 15 (readCells s.cells (.user (sectorPage j.sector 15)))) = image)
    (hu : copyFrom ((removeOp s).mergedWith j.sector image)
      { j with members := linesToAbsorb s j.sector, copyCheck := some (imageSum image), loop := none } image 0 = u) :
    exec .readPageComplete s = .next (evaluateHeldRead (bankOf j.sector) u) :=
  exec_loadRead hop hj hl hst
    ((loadNext_last (s := removeOp s) hb j _).trans ((merge_eq (s := removeOp s) hq hh hm _ himage).trans hu))

/-- Settles O28: LOAD's step, and at its last page MERGE as one state and one image, handed to COPY. -/
theorem mergeAbsorbsTheSector : Obligations.MergeAbsorbsTheSector := by
  intro s j sec img hj hl hb
  refine ⟨fun k h hop hst => exec_loadRead hop hj hl hst (loadNext_page (s := removeOp s) hb j h _), ?_⟩
  rintro i base hlaw hop hst hh hm - hsec rfl
  obtain ⟨-, hq, -⟩ := hlaw
  obtain ⟨image, himage⟩ : ∃ image, s.mergedImage (i :: linesToAbsorb s j.sector)
    (img.set 15 (readCells s.cells (.user (sectorPage j.sector 15)))) = image := ⟨_, rfl⟩
  have hends := fun {u : State} => exec_lastLoadRead (u := u) hq hop hj hl hst hb hh hm himage
  have hin : ∀ n ∈ i :: linesToAbsorb s j.sector, ∀ p ∈ s.lines[n].page, sectorOf p = j.sector :=
    List.forall_mem_cons.2 ⟨hsec, fun _ => sectorOf_of_mem_linesToAbsorb⟩
  refine ⟨{ (removeOp s).mergedWith j.sector image with
      op := s.op, journals := s.journals.set (journalBank (journalFor j.sector)) .spent },
    image, linesToAbsorb s j.sector, _, rfl, rfl, takeLines_get (removeOp s) _, rfl, fun m hm => ?_, fun hno header hheader => ?_,
    fun older newer l p x b hsplit hp hx hnewer => ?_, fun k x hunheld => ?_⟩
  · exact hends (copyFrom_next hm _ _)
  · exact hends (copyFrom_done hno _ rfl hheader)
  · rw [hsplit] at hin himage
    rw [← himage]
    exact mergedImage_held (fun n hn => hin n (List.mem_append_right _ hn)) hp hx hnewer _
  · rw [← himage]
    exact mergedImage_unheld hin hunheld _

end Sys2Proof.Machine
end

section
/-! PROOF. The failures of a rewrite: the quarantine of its target or its journal, and what each stage makes of a loop that fails (R75 to
R78, R80, R105, R134). -/

namespace Sys2Proof.Machine

set_option Elab.async false

/-! ### The wait across a RETIRE -/

/-- A THROUGH write that still waits after lines have retired waits on a line that has not (R26, R134). -/
theorem waitLaw_of_retired {s v : State} {retired : LineNo → Bool} (hw : s.waitLaw) (hp : v.port = s.portAfter retired)
    (hl : ∀ k : LineNo, v.lines[k] = if retired k = true then Line.cleared else s.lines[k]) : v.waitLaw := by
  intro t k i hwait
  rw [hp] at hwait
  unfold State.portAfter at hwait
  split at hwait
  · next hport =>
    split at hwait
    · cases hwait
    · next hkept =>
      cases hwait
      rw [hl, if_neg hkept]
      exact hw _ _ _ hport
  · next hport => exact absurd hwait (hport _ _ _)

/-! ### The quarantine of a sector -/

/-- A rewrite that fails on its target: quarantine with ground COPY, lines retired, entry cascade (R78, R105). -/
theorem rewriteTargetFails_spec {s : State} (hw : s.waitLaw) (j : Job) (step : FaultStep) (n : Nat) :
    ∃ u, rewriteTargetFails (removeOp s) { j with loop := none } step n = endJob u ∧ s.targetFailed u j step n := by
  obtain ⟨v, hv, hvfields, hvlines⟩ := handBackRetired_spec (s := setQuarantine (removeOp s) j.sector .copy) hw j
  have hvport : v.port = s.portAfter (s.heldBy j) := by
    rw [hvfields]
    rfl
  have hvw : v.waitLaw := waitLaw_of_retired hw hvport hvlines.1
  obtain ⟨w, hcascade, hwfields, hwlines⟩ := entryCascade_spec (retakeHeldWrite_waitLaw hvw) j.sector
  refine ⟨appendFault w (.quarantined j.sector step n), ?_, v, retakeHeldWrite v, hvfields, hvlines, rfl, ?_, hwlines⟩
  · unfold rewriteTargetFails
    rw [← hcascade, ← hv]
    rfl
  · rw [hwfields]
    rfl

/-- `u` is `s` at the end of a rewrite whose close mark and fallback erase failed, before the record goes: the sector quarantined with
ground CELLS, its waiting lines FAILED and a QUARANTINED entry made (R80, R105). -/
def State.closeFailed (s u : State) (sec : SectorNo) (pulses : Nat) : Prop :=
  u = { s with
    op := none, lines := u.lines, commitQueue := u.commitQueue,
    quarantine := s.quarantine.set (bankOf sec) { sector := some sec, ground := .cells, pending := .none },
    port := s.portAfter (s.cascadedIn sec), portAnswer := s.answerAfter (s.cascadedIn sec) (.error .commitFail),
    log := s.log.append (.quarantined sec .close pulses) } ∧
  s.linesFailed u (s.cascadedIn sec)

/-- A rewrite whose close mark and fallback erase both fail (R80). -/
theorem rewriteCloseFails_spec {s : State} (hw : s.waitLaw) (j : Job) (n : Nat) :
    ∃ u, rewriteCloseFails (removeOp s) j n = endJob u ∧ s.closeFailed u j.sector n := by
  obtain ⟨w, hcascade, hwfields, hwlines⟩ := entryCascade_spec (s := setQuarantine (removeOp s) j.sector .cells) hw j.sector
  refine ⟨appendFault w (.quarantined j.sector .close n), ?_, ?_, hwlines⟩
  · rw [← hcascade]
    rfl
  · rw [hwfields]
    rfl

/-! ### The stages of a rewrite, each ended in failure -/

theorem eraseFails_targetErase {s : State} {j : Job} (hst : j.stage = .targetErase) (hk : j.kind = .rewrite) (n : Nat) :
    eraseFails s j n = rewriteTargetFails s j .erase n := by
  simp only [eraseFails, hst, targetFails, if_pos hk]

theorem eraseFails_closeErase {s : State} {j : Job} (hst : j.stage = .closeErase) (hk : j.kind = .rewrite) (n : Nat) :
    eraseFails s j n = rewriteCloseFails s j n := by
  simp only [eraseFails, hst, if_pos hk]

theorem programFails_copy {s : State} {j : Job} {k : Fin 16} (hst : j.stage = .copy k) (cause : LoopFailure) (n : Nat) :
    programFails s j cause n = copyStepFails s j .copy .spent := by
  simp only [programFails, hst]

theorem programFails_header {s : State} {j : Job} (hst : j.stage = .header) (cause : LoopFailure) (n : Nat) :
    programFails s j cause n = copyStepFails s j .header .spent := by
  simp only [programFails, hst]

/-- A COPY_DONE mark that fails is followed by the SCRUB of its journal (R75). -/
theorem programFails_copyDone {s : State} {j : Job} (hst : j.stage = .copyDone) (cause : LoopFailure) (n : Nat) :
    programFails s j cause n =
      startErase s { j with stage := .scrub, failedStep := some .copyDone } (.journal (journalFor j.sector)) := by
  simp only [programFails, hst]

theorem programFails_targetProgram {s : State} {j : Job} {k : Fin 16} (hst : j.stage = .targetProgram k)
    (hk : j.kind = .rewrite) (cause : LoopFailure) (n : Nat) :
    programFails s j cause n = rewriteTargetFails s j .program n := by
  simp only [programFails, hst, targetFails, if_pos hk]

/-- A close mark that fails is followed by the fallback erase of its journal (R80). -/
theorem programFails_close {s : State} {j : Job} (hst : j.stage = .close) (cause : LoopFailure) (n : Nat) :
    programFails s j cause n = startErase s { j with stage := .closeErase } (.journal (journalFor j.sector)) := by
  simp only [programFails, hst]

/-- Settles O30: each clause is the failure of one stage's loop. -/
theorem rewriteFailureQuarantinesTheSector : Obligations.RewriteFailureQuarantinesTheSector := by
  rintro s j _ n hj hk rfl hw
  refine ⟨fun g hop hl hf => ?_, fun cp image latch cause hop hl hf => ?_⟩
  · have hends := fun {u : State} => exec_eraseLoop_fails (u := u) hop hj hl hf
    refine ⟨fun hst => ?_, fun hst => ?_⟩
    · obtain ⟨u, hu, hfailed⟩ := rewriteTargetFails_spec hw j .erase n
      exact ⟨u, hends ((eraseFails_targetErase hst hk n).trans hu), hfailed⟩
    · obtain ⟨u, hu, hfailed⟩ := rewriteCloseFails_spec hw { j with loop := none } n
      exact ⟨u, hends ((eraseFails_closeErase hst hk n).trans hu), hfailed⟩
  · have hends := fun {u : State} => exec_verify_fails (u := u) hop hj hl hf
    refine ⟨fun k hst => ?_, fun hst => ?_, fun hst => ?_, fun k hst => ?_, fun hst => ?_⟩
    · obtain ⟨u, hu, hfailed⟩ := copyStepFails_spec hw j (.inl ⟨rfl, rfl⟩) .spent
      exact ⟨u, hends ((programFails_copy hst cause n).trans hu), hfailed⟩
    · obtain ⟨u, hu, hfailed⟩ := copyStepFails_spec hw j (.inr (.inl ⟨rfl, rfl⟩)) .spent
      exact ⟨u, hends ((programFails_header hst cause n).trans hu), hfailed⟩
    · exact hends (programFails_copyDone hst cause n)
    · obtain ⟨u, hu, hfailed⟩ := rewriteTargetFails_spec hw j .program n
      exact ⟨u, hends ((programFails_targetProgram hst hk cause n).trans hu), hfailed⟩
    · exact hends (programFails_close hst cause n)

end Sys2Proof.Machine
end

section
/-! PROOF. The byte a read returns, layer by layer: the newest line that holds it, the LOADED buffer, the journal copy, the cells (R85 to
R88). -/

namespace Sys2Proof.Machine

set_option Elab.async false

/-! ### The lines -/

theorem lineGives_eq_none_iff {s : State} {p : PageNo} {x : Fin 64} {k : LineNo} :
    lineGives s p x k = none ↔
      s.lines[k].state = .free ∨ s.lines[k].page ≠ some p ∨ s.lines[k].staged[x] = none := by
  rw [lineGives, ite_eq_right_iff]
  tauto

theorem lineGives_of_holds {s : State} {p : PageNo} {x : Fin 64} {k : LineNo} (hf : s.lines[k].state ≠ .free)
    (hp : s.lines[k].page = some p) : lineGives s p x k = s.lines[k].staged[x] :=
  if_pos ⟨hf, hp⟩

/-- The age list runs from the oldest line to the newest, so a line is found before those that stand ahead of it there (R88). -/
theorem lineByte_of_newest {s : State} {p : PageNo} {x : Fin 64} {older newer : List LineNo} {i : LineNo} {b : Byte}
    (hage : s.ageList = older ++ i :: newer) (hi : lineGives s p x i = some b)
    (hnewer : ∀ k ∈ newer, lineGives s p x k = none) : lineByte s p x = some b := by
  rw [lineByte_eq, List.findSome?_eq_some_iff]
  exact ⟨newer.reverse, i, older.reverse, by simp [hage], hi, fun k hk => hnewer k (List.mem_reverse.1 hk)⟩

/-! ### Below the lines -/

theorem readByte_of_line {s : State} {p : PageNo} {x : Fin 64} {b : Byte} (h : lineByte s p x = some b) :
    readByte s p x = b := by
  rw [readByte_eq_getD, h, Option.getD_some]

theorem readByte_of_loaded {s : State} {p : PageNo} {x : Fin 64} {img : Image} (hline : lineByte s p x = none)
    (hb : s.buffer = .loaded (sectorOf p) img) : readByte s p x = img[pageInSector p][x] := by
  have hbuffer : bufferByte s p x = some img[pageInSector p][x] := by simp only [bufferByte, hb, if_pos]
  rw [readByte_eq_getD, hline, hbuffer, Option.getD_none, Option.getD_some]

/-- A byte that falls through lines and buffer is read at its place in the ground's page (R85). -/
theorem readByte_of_fallsThrough {s : State} {p : PageNo} {x : Fin 64} (h : s.fallsThrough p x) :
    readByte s p x = Memory.read s.cells ((groundPage s p).base + x.val) := by
  obtain ⟨hlines, hbuffer⟩ := h
  rw [readByte_eq_getD, lineByte_eq_none_iff.2 hlines, bufferByte_eq_none_iff.2 hbuffer, Option.getD_none, Option.getD_none,
    groundByte]

/-! ### The page of the ground -/

theorem groundPage_of_cells {s : State} {p : PageNo} (h : s.groundIsCells (sectorOf p)) : groundPage s p = .user p := by
  rw [groundPage, copyOf_eq_none_iff.2 h]

/-- The copy in the one journal OPEN for the sector is the ground where the cells are not (R86). -/
theorem groundPage_of_copy {s : State} {p : PageNo} {j : Journal} (h : ¬ s.groundIsCells (sectorOf p))
    (hone : ∀ j', journalState s j' = .openFor (sectorOf p) → j' = j) : groundPage s p = copyPage j (pageInSector p) := by
  rw [groundPage]
  cases hc : copyOf s (sectorOf p) with
  | none => exact absurd (copyOf_eq_none_iff.1 hc) h
  | some j' => rw [hone j' (journalState_of_copyOf hc)]

/-! ### The statement -/

/-- Settles O16: one clause for each layer, the layers above it giving nothing. -/
theorem overlayOrder : Obligations.OverlayOrder := by
  refine fun s p x => ⟨fun older newer i b hage hf hp hb hnewer => ?_, fun hlines => ⟨fun img hb => ?_, fun hbuffer => ⟨?_, ?_⟩⟩⟩
  · have hi : lineGives s p x i = some b := (lineGives_of_holds hf hp).trans hb
    exact readByte_of_line (lineByte_of_newest hage hi fun k hk => lineGives_eq_none_iff.2 (hnewer k hk))
  · exact readByte_of_loaded (lineByte_eq_none_iff.2 hlines) hb
  · intro j hopen hone hnot
    have hcopy : ¬ s.groundIsCells (sectorOf p) := not_or.2 ⟨fun hnone => hnone j hopen, hnot⟩
    rw [readByte_of_fallsThrough ⟨hlines, hbuffer⟩, groundPage_of_copy hcopy hone]
    rfl
  · intro hcells
    rw [readByte_of_fallsThrough ⟨hlines, hbuffer⟩, groundPage_of_cells hcells]
    rfl

end Sys2Proof.Machine
end

section
/-! PROOF. The rest of the checks of a transaction held for start-up: DRAIN, QUARANTINE, the opening of line 0, and the read (R91, R130,
R132, R134). -/

namespace Sys2Proof.Machine

set_option Elab.async false

/-! ### The resumption -/

/-- START_HOLD_RESUME is the resumption with the job choice behind it (R43, R132). -/
theorem exec_startHoldResume (s : State) : exec .startHoldResume s = .next (chooseJob (startHoldResume s)) := by
  simp only [exec, execStartHoldResume]

theorem startHoldResume_of_starting {s : State} (hf : s.frontEnd = .starting) : startHoldResume s = s := by
  unfold startHoldResume
  split
  · exact if_pos (Or.inl hf)
  · rfl

theorem startHoldResume_of_started {s : State} {t : Transaction} {k : AccessKind} {w : Nat} (hp : s.port = .held t k .start w)
    (hs : s.started) : startHoldResume s = continueChecks s t k := by
  have hf : ¬(s.frontEnd = .starting ∨ s.frontEnd = .inReset) := by
    obtain hf | hf | hf := hs <;> simp [hf]
  simp only [startHoldResume, hp, if_neg hf]

theorem chooseJob_of_starting {s : State} (hf : s.frontEnd = .starting) : chooseJob s = s :=
  chooseJob_of_none (Option.eq_none_iff_forall_ne_some.2 fun _ hc => not_started_of_starting hf (idle_of_nextJob hc).2)

/-! ### The further checks, by their outcome -/

theorem refuse_eq_afterRefusal (s : State) (t : Transaction) (r : RefusedReason) : refuse s t r = s.afterRefusal t r := by
  unfold refuse State.afterRefusal State.logAfterRefusal
  split <;> rfl

/-- A write is refused DRAIN, without an entry (R130, step 2). -/
theorem continueChecks_drain {s : State} {t : Transaction} {k : AccessKind} (hd : t.direction = .write)
    (hf : s.frontEnd = .draining ∨ s.frontEnd = .drained) : continueChecks s t k = answer s (.error .drain) := by
  simp only [continueChecks, hd, if_pos hf]

/-- A write in READY to a sector the record names is refused QUARANTINE (R130, step 3). -/
theorem continueChecks_quarantine {s : State} {t : Transaction} {k : AccessKind} (hd : t.direction = .write)
    (hf : s.frontEnd = .ready) (hq : isNamed s (sectorOf (transactionPage t)) = true) :
    continueChecks s t k = s.afterRefusal t .quarantine := by
  have hready : ¬(s.frontEnd = .draining ∨ s.frontEnd = .drained) := by simp [hf]
  simp only [continueChecks, hd, if_neg hready, if_pos hq, refuse_eq_afterRefusal]

/-- With every line FREE no page is blocked and none is OPEN, and a write opens line 0 (R22, R24). -/
theorem takeWrite_of_all_free {s : State} (hfree : ∀ i : LineNo, s.lines[i].state = .free) (t : Transaction) (k : AccessKind) :
    takeWrite s t k = openForWrite s 0 t k := by
  have hblocked : isBlocked s (transactionPage t) = false := by
    rw [Bool.eq_false_iff, ne_eq, isBlocked_iff]
    rintro ⟨i, hfailed, -⟩
    simp [-Fin.getElem_fin, hfree i] at hfailed
  have hopen : openLineOf s (transactionPage t) = none := openLineOf_eq_none.2 fun i ⟨hopen, _⟩ => by
    simp [-Fin.getElem_fin, hfree i] at hopen
  have hlow : freeLineNo s = some 0 := freeLineNo_eq (hfree 0) fun i hi => absurd hi (Fin.not_lt_zero i)
  simp [takeWrite, hblocked, hopen, hlow]

/-- A read is served while no operation is in flight, whichever bank it needs (R84). -/
theorem continueChecks_read_of_no_op {s : State} {t : Transaction} {k : AccessKind} (hd : t.direction = .read) (ho : s.op = none) :
    continueChecks s t k = { s with port := .idle, portAnswer := some (s.readAnswer t) } := by
  have hserve : canServe s t = true := by
    rw [canServe_iff]
    cases hneed : neededBank s t with
    | none => exact Or.inl rfl
    | some b => exact Or.inr ⟨b, rfl, bankBusy_of_no_op ho b⟩
  simp only [continueChecks, hd, takeRead, if_pos hserve, serveRead_eq]

/-! ### The statement -/

/-- Settles O18: the resumption is the further checks, and each clause is one of their outcomes. -/
theorem startHoldTakesTheRestOfItsChecks : Obligations.StartHoldTakesTheRestOfItsChecks := by
  intro s t k w hp
  rw [exec_startHoldResume]
  refine ⟨fun hf => ?_, fun hd hf => ?_, fun hd hf hq => ?_, fun hd hf hq hfree => ?_, fun hd hs ho => ?_⟩
  · rw [startHoldResume_of_starting hf, chooseJob_of_starting hf]
  · rw [startHoldResume_of_started hp (Or.inr hf), continueChecks_drain hd hf]
    rfl
  · rw [startHoldResume_of_started hp (Or.inl hf), continueChecks_quarantine hd hf hq]
  · rw [startHoldResume_of_started hp (Or.inl hf), continueChecks_write hd hf hq, takeWrite_of_all_free hfree]
    refine ⟨fun hk => ?_, fun hk => ?_⟩
    · rw [hk, openForWrite_buffered]
      rfl
    · rw [hk, openForWrite_through]
      rfl
  · rw [startHoldResume_of_started hp hs, continueChecks_read_of_no_op hd ho]

end Sys2Proof.Machine
end

section
/-! PROOF. The recovery jobs and REPLAY: the copy load, the target steps, the close step with its ends, and what a REPLAY's end goes on to
(R108 to R112, R143, R144). -/

namespace Sys2Proof.Machine

set_option Elab.async false

/-! ### The copy load -/

/-- A copy page before the last joins the ASSEMBLING buffer, and the next one is read (R108). -/
theorem loadCopyNext_next {s : State} {sec : SectorNo} {img : Image} (hb : s.buffer = .assembling sec img) {k : Fin 16}
    (hk : k.val + 1 < 16) (j : Job) (page : Page) :
    loadCopyNext s j k page =
      { s with
        job := some { j with stage := .loadCopy ⟨k.val + 1, hk⟩ }
        buffer := .assembling sec (img.set k page)
        op := some (.readPage (copyPage (journalFor j.sector) ⟨k.val + 1, hk⟩)) } := by
  simp only [loadCopyNext, hb, dif_pos hk]
  rfl

/-- With the last copy page the buffer is LOADED, and TARGET_ERASE begins (R108, R109). -/
theorem loadCopyNext_last {s : State} {sec : SectorNo} {img : Image} (hb : s.buffer = .assembling sec img) (j : Job) (page : Page) :
    loadCopyNext s j 15 page = startTargetErase { s with buffer := .loaded sec (img.set 15 page) } j := by
  simp only [loadCopyNext, hb]
  rfl

theorem jobReads_loadCopy {j : Job} {k : Fin 16} (hst : j.stage = .loadCopy k) (hl : j.loop = none) (s : State) (page : Page) :
    jobReads s j page = loadCopyNext s j k page := by
  simp only [jobReads, hl, hst]

/-! ### The close step -/

/-- Programming the RESTORE_DONE mark leaves a header as it is exactly where the mark is at 00h (R66, R110). -/
theorem withRestoreDone_eq_self_iff {header : Page} : withRestoreDone header = header ↔ header[5] = 0x00#8 := by
  refine ⟨fun h => ?_, fun h => ?_⟩
  · have hmark : (withRestoreDone header)[5] = 0x00#8 := Vector.getElem_set_self (by decide)
    rwa [h] at hmark
  · rw [withRestoreDone, ← h, Vector.set_getElem_self]

theorem jobReads_close {j : Job} (hst : j.stage = .close) (hl : j.loop = none) (s : State) (page : Page) :
    jobReads s j page = closeHeaderRead s j page := by
  simp only [jobReads, hl, hst]

theorem closeHeaderRead_of_marked {header : Page} (h : header[5] = 0x00#8) (s : State) (j : Job) :
    closeHeaderRead s j header = closeStepSucceeds s j .spent := if_pos (withRestoreDone_eq_self_iff.2 h)

theorem closeHeaderRead_of_unmarked {header : Page} (h : header[5] ≠ 0x00#8) (s : State) (j : Job) :
    closeHeaderRead s j header =
      startProgram s j (headerPage (journalFor j.sector)) (header.set 5 0x00#8) header :=
  if_neg fun he => h (withRestoreDone_eq_self_iff.1 he)

/-! ### The ends of a recovery job -/

/-- RESTORE's close step succeeds: a RESTORED entry (R111). -/
theorem closeStepSucceeds_restore {j : Job} (hk : j.kind = .restore) (s : State) (after : JournalState) :
    closeStepSucceeds s j after =
      endJob (appendFault (clearQuarantine (setJournal s (journalFor j.sector) after) j.sector) (.restored j.sector)) := by
  simp only [closeStepSucceeds, hk]

/-- CLOSE's close step succeeds: no entry (R112). -/
theorem closeStepSucceeds_close {j : Job} (hk : j.kind = .close) (s : State) (after : JournalState) :
    closeStepSucceeds s j after = endJob (clearQuarantine (setJournal s (journalFor j.sector) after) j.sector) := by
  simp only [closeStepSucceeds, hk]

/-- REPLAY's close step succeeds: a REPLAYED entry (R144). -/
theorem closeStepSucceeds_replay {j : Job} (hk : j.kind = .replay) (s : State) (after : JournalState) :
    closeStepSucceeds s j after =
      endReplay (appendFault (clearQuarantine (setJournal s (journalFor j.sector) after) j.sector) (.replayed j.sector)) := by
  simp only [closeStepSucceeds, hk]

/-- A target step of a RESTORE fails: ground COPY and a RESTORE_FAIL entry (R111). -/
theorem recoveryTargetFails_restore {j : Job} (hk : j.kind = .restore) (s : State) (step : FaultStep) (n : Nat) :
    recoveryTargetFails s j step n = endJob (appendFault (setQuarantine s j.sector .copy) (.restoreFail j.sector)) :=
  if_neg (by simp [hk])

/-- A target step of a REPLAY fails: ground COPY and a QUARANTINED entry (R144). -/
theorem recoveryTargetFails_replay {j : Job} (hk : j.kind = .replay) (s : State) (step : FaultStep) (n : Nat) :
    recoveryTargetFails s j step n =
      endReplay (appendFault (setQuarantine s j.sector .copy) (.quarantined j.sector step n)) := if_pos hk

/-- The close step of a RESTORE or a CLOSE fails: ground CELLS and a JOURNAL_FAIL entry (R111, R112). -/
theorem closeStepFails_of_ne_replay {j : Job} (hk : j.kind ≠ .replay) (s : State) (n : Nat) :
    closeStepFails s j n =
      endJob (appendFault (setQuarantine s j.sector .cells) (.journalFail (journalFor j.sector) .close j.sector 0)) := if_neg hk

/-- The close step of a REPLAY fails: ground CELLS and a QUARANTINED entry (R144). -/
theorem closeStepFails_replay {j : Job} (hk : j.kind = .replay) (s : State) (n : Nat) :
    closeStepFails s j n =
      endReplay (appendFault (setQuarantine s j.sector .cells) (.quarantined j.sector .close n)) := if_pos hk

/-- The end of a recovery job looks at neither the operation record nor the job's stage and loop. -/
theorem closeStepSucceeds_delivered (s : State) (j : Job) (st : Stage) (after : JournalState) :
    closeStepSucceeds (removeOp s) { j with stage := st, loop := none } after = closeStepSucceeds s j after := rfl

theorem closeStepFails_delivered (s : State) (j : Job) (st : Stage) (n : Nat) :
    closeStepFails (removeOp s) { j with stage := st, loop := none } n = closeStepFails s j n := rfl

theorem recoveryTargetFails_delivered (s : State) (j : Job) (st : Stage) (step : FaultStep) (n : Nat) :
    recoveryTargetFails (removeOp s) { j with stage := st, loop := none } step n = recoveryTargetFails s j step n := rfl

/-! ### The completions of a job that is no rewrite -/

section
variable {s : State} {j : Job} (hj : s.job = some j) (hk : j.kind ≠ .rewrite)

section
variable (hst : j.stage = .close) (hop : s.op = some (.readPage (headerPage (journalFor j.sector))))
include hj hst hop

/-- The header read by the close step has its mark at 00h (R110). -/
theorem exec_closeHeader_marked (hl : j.loop = none) (hmark : (readCells s.cells (headerPage (journalFor j.sector)))[5] = 0x00#8) :
    exec .readPageComplete s = .next (evaluateHeldRead (journalBank (journalFor j.sector))
      (closeStepSucceeds s j .spent)) := by
  rw [exec_readPageComplete_of_job hop hj, jobReads_close hst hl, closeHeaderRead_of_marked hmark]
  rfl

include hk

/-- The mark programmed by the close step reads as it should (R110). -/
theorem exec_closeMark_verified {image latch : Page} {n : Nat}
    (hl : j.loop = some (.program (headerPage (journalFor j.sector)) image latch n))
    (hr : readCells s.cells (headerPage (journalFor j.sector)) = image) :
    exec .readPageComplete s = .next (evaluateHeldRead (journalBank (journalFor j.sector))
      (closeStepSucceeds s j .spent)) :=
  exec_verify_succeeds hop hj hl hr (by simp only [programSucceeds, hst, if_neg hk, closeStepSucceeds_delivered])

end

section
variable (hst : j.stage = .closeErase) (hop : s.op = some (.blankCheck (.journal (journalFor j.sector))))
include hj hk hst hop

/-- The fallback erase of the journal leaves it BLANK (R110). -/
theorem exec_closeErase_blank {n : Nat} (hl : j.loop = some (.erase (.journal (journalFor j.sector)) n))
    (hb : s.readsBlank (.journal (journalFor j.sector))) :
    exec .blankCheckComplete s = .next (evaluateHeldRead (journalBank (journalFor j.sector))
      (closeStepSucceeds s j .blank)) :=
  exec_eraseLoop_succeeds hop hj hl hb (by simp only [eraseSucceeds, hst, if_neg hk, closeStepSucceeds_delivered])

/-- The fallback erase of the journal fails (R110, R111). -/
theorem exec_closeErase_fails {n : Nat} (hl : j.loop = some (.erase (.journal (journalFor j.sector)) n))
    (hf : s.eraseFails (.journal (journalFor j.sector)) n) :
    exec .blankCheckComplete s = .next (evaluateHeldRead (journalBank (journalFor j.sector))
      (closeStepFails s j n)) :=
  exec_eraseLoop_fails hop hj hl hf (by simp only [eraseFails, hst, if_neg hk, closeStepFails_delivered])

end

include hj hk

/-- The erase of the target fails (R109, R111). -/
theorem exec_targetErase_fails {n : Nat} (hst : j.stage = .targetErase) (hop : s.op = some (.blankCheck (.user j.sector)))
    (hl : j.loop = some (.erase (.user j.sector) n)) (hf : s.eraseFails (.user j.sector) n) :
    exec .blankCheckComplete s = .next (evaluateHeldRead (bankOf j.sector)
      (recoveryTargetFails s j .erase n)) :=
  exec_eraseLoop_fails hop hj hl hf (by simp only [eraseFails, hst, targetFails, if_neg hk, recoveryTargetFails_delivered])

/-- The programming of a page of the target fails (R109, R111). -/
theorem exec_targetProgram_fails {k : Fin 16} {image latch : Page} {n : Nat} {cause : LoopFailure}
    (hst : j.stage = .targetProgram k) (hop : s.op = some (.readPage (.user (sectorPage j.sector k))))
    (hl : j.loop = some (.program (.user (sectorPage j.sector k)) image latch n))
    (hf : s.loopFails (.user (sectorPage j.sector k)) image n cause) :
    exec .readPageComplete s = .next (evaluateHeldRead (bankOf j.sector)
      (recoveryTargetFails s j .program n)) := by
  rw [← bank_sectorPage j.sector k]
  exact exec_verify_fails hop hj hl hf (by simp only [programFails, hst, targetFails, if_neg hk, recoveryTargetFails_delivered])

end

/-- With no page left to program, a job that is no rewrite begins its close step (R109, R110). -/
theorem programFrom_done_of_recovery {s : State} {j : Job} (hk : j.kind ≠ .rewrite) {sec : SectorNo} {img : Image}
    (hb : s.buffer = .loaded sec img) {k : Nat} (hno : noPageLeft img k) : programFrom s j k = startCloseStep s j := by
  rw [programFrom_done hb j hno, targetProgrammed, if_neg hk]

/-! ### The end of a REPLAY -/

/-- After the REPLAY from J0 comes that from J1, where J1 is OPEN (R140, R144). -/
theorem endReplay_of_open {s : State} {sec : SectorNo} (hs : s.scan = .replay .j0) (h : s.journals.one = .openFor sec) :
    endReplay s = startReplay { s with job := none, op := none, buffer := .empty } .j1 sec := by
  simp only [endReplay, hs, scanFourthStep, h]

/-- With no REPLAY left the scan and start-up end (R144, R145). -/
theorem endReplay_of_last {s : State} (h : s.scan = .replay .j1 ∨ ∀ sec, s.journals.one ≠ .openFor sec) :
    endReplay s = endStartup { s with job := none, op := none, buffer := .empty, scan := .ended } := by
  unfold endReplay
  dsimp only
  split
  · next hs =>
    have hone := h.resolve_left (by simp [hs])
    unfold scanFourthStep
    split
    · next sec he => exact absurd he (hone sec)
    · rfl
  · rfl

/-! ### The statement -/

/-- Settles O32: each completion delivers to one stage, whose end is one equation; the last two clauses are the end of a REPLAY. -/
theorem recoveryEndsLiftTheQuarantine : Obligations.RecoveryEndsLiftTheQuarantine := by
  refine ⟨?_, fun u v hv => ?_⟩
  · rintro s j _ hj rfl hkind
    have hk : j.kind ≠ .rewrite := by
      obtain hk | hk | hk := hkind <;> simp [hk]
    refine ⟨?_, ?_, ?_, fun hst hop => ⟨?_, ?_⟩, ?_, ?_⟩
    · rintro c after hdone _ rfl
      have hend : exec c s = .next (evaluateHeldRead (journalBank (journalFor j.sector))
          (closeStepSucceeds s j after)) := by
        obtain ⟨rfl, rfl, hst, hop, ⟨image, latch, n, hl, hr⟩ | ⟨hl, hmark⟩⟩ | ⟨rfl, rfl, hst, hop, ⟨n, hl⟩, hb⟩ := hdone
        · exact exec_closeMark_verified hj hk hst hop hl hr
        · exact exec_closeHeader_marked hj hst hop hl hmark
        · exact exec_closeErase_blank hj hk hst hop hl hb
      rw [hend]
      refine ⟨fun hk => ?_, fun hk => ?_, fun hk => ?_⟩
      · rw [closeStepSucceeds_restore hk]
        rfl
      · rw [closeStepSucceeds_close hk]
        rfl
      · rw [closeStepSucceeds_replay hk]
        rfl
    · rintro c step n hfail _ rfl
      have hend : exec c s = .next (evaluateHeldRead (bankOf j.sector)
          (recoveryTargetFails s j step n)) := by
        obtain ⟨rfl, rfl, k, image, latch, cause, hst, hop, hl, hf⟩ | ⟨rfl, rfl, hst, hop, hl, hf⟩ := hfail
        · exact exec_targetProgram_fails hj hk hst hop hl hf
        · exact exec_targetErase_fails hj hk hst hop hl hf
      rw [hend]
      refine ⟨fun hk => ?_, fun hk => ?_⟩
      · rw [recoveryTargetFails_restore hk]
        rfl
      · rw [recoveryTargetFails_replay hk]
        rfl
    · rintro n hst hop hl hf _ rfl
      rw [exec_closeErase_fails hj hk hst hop hl hf]
      refine ⟨fun hk => ?_, fun hk => ?_⟩
      · have hne : j.kind ≠ .replay := by
          obtain hk | hk := hk <;> simp [hk]
        rw [closeStepFails_of_ne_replay hne]
        rfl
      · rw [closeStepFails_replay hk]
        rfl
    · rintro header _ _ hl rfl hmark rfl rfl
      rw [exec_readPageComplete_of_job hop hj, jobReads_close hst hl, closeHeaderRead_of_unmarked hmark]
      rfl
    · rintro image latch n cause hl hf
      exact exec_verify_fails hop hj hl hf (programFails_close (j := { j with loop := none }) hst cause n)
    · rintro k sec img hst hl hop hb
      rw [exec_readPageComplete_of_job hop hj, jobReads_loadCopy hst hl]
      refine ⟨fun hlt => ?_, ?_⟩
      · rw [loadCopyNext_next (s := removeOp s) hb hlt]
        rfl
      · rintro rfl
        rw [loadCopyNext_last (s := removeOp s) hb]
        rfl
    · rintro k sec img image latch n hst hop hl hr hb
      have hends := fun {u : State} => exec_verify_succeeds (u := u) hop hj hl hr
      have htarget := programSucceeds_targetProgram (s := removeOp s) (j := { j with loop := none }) hst
      rw [bank_sectorPage] at hends
      refine ⟨fun m hm => hends (htarget.trans ?_), fun hno => hends (htarget.trans ?_)⟩
      · rw [programFrom_next (s := removeOp s) hb _ hm, startProgram, latchFor_erasedPage]
        rfl
      · rw [programFrom_done_of_recovery (s := removeOp s) (j := { j with loop := none }) hk hb hno]
        rfl
  · subst hv
    exact ⟨fun sec hs hopen => endReplay_of_open hs hopen, endReplay_of_last⟩

end Sys2Proof.Machine
end

section
/-! PROOF. The requests of the recovery jobs and RESET_PART: the request on a ready link as its run with the link BUSY, and the run by its
checks (R107, R172, R182, R183). -/

namespace Sys2Proof.Machine

set_option Elab.async false

/-- `s` with the link BUSY: a whole request has come, and no response has begun. -/
def State.linkBusy (s : State) : State := { s with link := { s.link with state := .busy } }

@[simp] theorem linkBusy_frontEnd (s : State) : s.linkBusy.frontEnd = s.frontEnd := rfl

@[simp] theorem linkBusy_quarantine (s : State) : s.linkBusy.quarantine = s.quarantine := rfl

@[simp] theorem linkBusy_link_state (s : State) : s.linkBusy.link.state = .busy := rfl

/-! ### Requests and answers on a ready link -/

/-- A request frame of a command's own length, sent to a link that is ready, is run with the link BUSY. -/
theorem receiveBytes_eq_runCommand {s : State} (h : s.linkReady) {cmd : Byte} (tag : Byte) {args : List Byte}
    (hl : args.length ≤ 12) (hc : requestLength cmd = some args.length) :
    receiveBytes s (requestBytes cmd tag args) = runCommand s.linkBusy cmd tag args := by
  rw [receiveBytes_request h cmd tag args hl]
  exact executeFrame_request hl hc

/-- A status answered on the BUSY link of a request is that response, sent from the state as it stands (R167). -/
theorem answerStatus_linkBusy {s : State} (htr : s.link.transmitter = .resting) (st : Status) (tag : Byte) :
    answerStatus s.linkBusy st tag = s.answering (statusCode st) tag [] false := respond_answering htr st tag [] false

theorem exec_restoreSector {s : State} (h : s.linkReady) (tag bank : Byte) :
    exec (.restoreSector tag bank) s = .next (runRecovery s.linkBusy tag bank .restore) :=
  congrArg Host.Outcome.next (receiveBytes_eq_runCommand h (cmd := 0x50#8) tag (args := [bank]) (by simp) rfl)

theorem exec_dropJournal {s : State} (h : s.linkReady) (tag bank : Byte) :
    exec (.dropJournal tag bank) s = .next (runRecovery s.linkBusy tag bank .close) :=
  congrArg Host.Outcome.next (receiveBytes_eq_runCommand h (cmd := 0x51#8) tag (args := [bank]) (by simp) rfl)

theorem exec_resetPart {s : State} (h : s.linkReady) (tag : Byte) :
    exec (.resetPart tag) s = .next (runResetPart s.linkBusy tag) :=
  congrArg Host.Outcome.next (receiveBytes_eq_runCommand h (cmd := 0x7F#8) tag (args := []) (by simp) rfl)

/-! ### The request of a recovery job, check by check -/

theorem bankOfCode_eq_none {bank : Byte} (h : 2 ≤ bank.toNat) : bankOfCode bank = none := by
  have hzero : bank ≠ 0#8 := by bv_omega
  have hone : bank ≠ 1#8 := by bv_omega
  rw [bankOfCode, if_neg hzero, if_neg hone]

theorem bankOfCode_eq_some {bank : Byte} {b : Bank} (h : bank = 0#8 ∧ b = .bank0 ∨ bank = 1#8 ∧ b = .bank1) :
    bankOfCode bank = some b := by
  obtain ⟨rfl, rfl⟩ | ⟨rfl, rfl⟩ := h <;> rfl

/-- The pending job is set, and the job choice made, alike whether the link is BUSY or not (R43, R107). -/
theorem setPending_linkBusy (s : State) (b : Bank) (p : PendingJob) : setPending s.linkBusy b p = (setPending s b p).linkBusy := by
  have hkeeps : setPending s b p = (setPending s b p).withLink s.link s.unit s.freeIndex :=
    setPending_withLink s.link s.unit s.freeIndex s b p
  calc setPending s.linkBusy b p
    _ = (setPending s b p).withLink { s.link with state := .busy } s.unit s.freeIndex :=
      setPending_withLink { s.link with state := .busy } s.unit s.freeIndex s b p
    _ = ((setPending s b p).withLink s.link s.unit s.freeIndex).linkBusy := rfl
    _ = (setPending s b p).linkBusy := by rw [← hkeeps]

section
variable {s : State} (htr : s.link.transmitter = .resting) (tag : Byte) {bank : Byte} (p : PendingJob)
include htr

/-- Another bank is RANGE (R182). -/
theorem runRecovery_range (h : bankOfCode bank = none) :
    runRecovery s.linkBusy tag bank p = s.answering 0x04#8 tag [] false := by
  simp only [runRecovery, h, answerStatus_linkBusy htr, statusCode]

variable {b : Bank} (hb : bankOfCode bank = some b)
include hb

/-- Outside READY, and where the record names no sector, the request is STATE (R182). -/
theorem runRecovery_state (h : s.frontEnd ≠ .ready ∨ (s.quarantine.get b).sector = none) :
    runRecovery s.linkBusy tag bank p = s.answering 0x05#8 tag [] false := by
  obtain hf | hs := h
  · simp [runRecovery, hb, hf, answerStatus_linkBusy htr, statusCode]
  · simp [runRecovery, hb, hs, answerStatus_linkBusy htr, statusCode]

variable (hf : s.frontEnd = .ready) (hs : (s.quarantine.get b).sector.isSome = true)
include hf hs

/-- With a job pending the request is BUSY (R182). -/
theorem runRecovery_busy (h : (s.quarantine.get b).pending ≠ .none) :
    runRecovery s.linkBusy tag bank p = s.answering 0x07#8 tag [] false := by
  simp [runRecovery, hb, hf, Option.isSome_iff_ne_none.1 hs, h, answerStatus_linkBusy htr, statusCode]

/-- Otherwise the pending job is set, the job choice is made, and the answer is OK (R107, R182). -/
theorem runRecovery_ok (h : (s.quarantine.get b).pending = .none) :
    runRecovery s.linkBusy tag bank p = (setPending s b p).answering 0x00#8 tag [] false := by
  have hrest : (setPending s b p).link.transmitter = .resting := by simp [htr]
  simp [runRecovery, hb, hf, Option.isSome_iff_ne_none.1 hs, h, setPending_linkBusy, answerStatus_linkBusy hrest, statusCode]

end

/-! ### RESET_PART, check by check -/

theorem runResetPart_starting {s : State} (hf : s.frontEnd = .starting) (tag : Byte) :
    runResetPart s.linkBusy tag = answerStatus s.linkBusy .state tag := by
  simp [runResetPart, hf]

/-- Out of STARTING the response is built that the reset follows (R183). -/
theorem runResetPart_ok {s : State} (hf : s.frontEnd ≠ .starting) (tag : Byte) :
    runResetPart s.linkBusy tag = respond s.linkBusy { status := .ok, tag := tag, data := [], resets := true } := by
  simp [runResetPart, hf]

/-! ### The statement -/

/-- Settles O48: both requests are one run, which goes check by check; RESET_PART has two outcomes. -/
theorem recoveryRequestsAndResetPart : Obligations.RecoveryRequestsAndResetPart := by
  intro s tag bank hready
  have htr : s.link.transmitter = .resting := by
    obtain ⟨-, -, -, -, -, htr, -⟩ := hready
    exact htr
  rw [exec_restoreSector hready, exec_dropJournal hready, exec_resetPart hready]
  refine ⟨fun hbank => ?_, fun b hbank => ?_, fun hf => ?_, fun hf => ?_⟩
  · simp only [runRecovery_range htr tag _ (bankOfCode_eq_none hbank), and_self]
  · have hb := bankOfCode_eq_some hbank
    refine ⟨fun h => ?_, fun hf hs => ⟨fun h => ?_, fun h => ?_⟩⟩
    · simp only [runRecovery_state htr tag _ hb h, and_self]
    · simp only [runRecovery_busy htr tag _ hb hf hs h, and_self]
    · simp only [runRecovery_ok htr tag _ hb hf hs h, setPending, and_self]
  · rw [runResetPart_starting hf, answerStatus_linkBusy htr, statusCode]
  · rw [runResetPart_ok hf]
    exact congrArg Host.Outcome.next (respond_answering htr .ok tag [] true)

end Sys2Proof.Machine
end

section
/-! PROOF. The region table: what SET_REGION writes into it check by check, and the entry that decides the kind and the commit delay of
a page (R116, R117, R118, R175). -/

namespace Sys2Proof.Machine

set_option Elab.async false

/-! ### The fields of a region record -/

/-- The two bytes of a number, sent low byte first, are the number again (section 11.6). -/
@[simp] theorem wordOf_lowByte_highByte (w : BitVec 16) : wordOf (lowByte w) (highByte w) = w := by
  unfold wordOf lowByte highByte
  ext i hi
  rw [BitVec.getElem_append]
  split
  · next hlow => simp [BitVec.getLsbD_eq_getElem hi]
  · next hhigh => simp [Nat.add_sub_cancel' (not_lt.1 hhigh), BitVec.getLsbD_eq_getElem hi]

/-- A word names the page of its number, and none when it is no page's number. -/
theorem pageOfWord_eq_some_iff {w : BitVec 16} {p : PageNo} : pageOfWord w = some p ↔ p.val = w.toNat := by
  rw [pageOfWord, Option.dite_none_right_eq_some]
  constructor
  · rintro ⟨_, hp⟩
    rw [← Option.some.inj hp]
  · intro hp
    exact ⟨hp ▸ p.isLt, congrArg some (Fin.ext hp.symm)⟩

/-- The codes of the kinds are 0 to 3. -/
theorem kindCode_lt (k : AccessKind) : (kindCode k).toNat < 4 := by
  cases k <;> decide

/-- The codes of section 11.6, as a table. -/
theorem kindCode_eq_of_mem {k : AccessKind} {c : Byte}
    (h : (k, c) ∈ [(AccessKind.buffered, 0#8), (.through, 1#8), (.readOnly, 2#8), (.noAccess, 3#8)]) : kindCode k = c := by
  simp only [List.mem_cons, Prod.mk.injEq, List.not_mem_nil, or_false] at h
  obtain ⟨rfl, rfl⟩ | ⟨rfl, rfl⟩ | ⟨rfl, rfl⟩ | ⟨rfl, rfl⟩ := h <;> rfl

theorem kindOfCode_kindCode (k : AccessKind) : kindOfCode (kindCode k) = some k := by
  cases k <;> rfl

/-- A code names the one kind whose code it is. -/
theorem kindOfCode_eq_some_iff {c : Byte} {k : AccessKind} : kindOfCode c = some k ↔ kindCode k = c := by
  constructor
  · unfold kindOfCode
    split_ifs with h0 h1 h2 h3
    all_goals rintro ⟨⟩
    · exact h0.symm
    · exact h1.symm
    · exact h2.symm
    · exact h3.symm
  · rintro rfl
    exact kindOfCode_kindCode k

/-- The checks of R117 on a region record, and the entry that the record gives when it passes them. -/
def Region.FromRecord (r : Region) (valid : Byte) (base limit : BitVec 16) (kind delay : Byte) : Prop :=
  (valid = 0#8 ∧ r.valid = false ∨ valid = 1#8 ∧ r.valid = true) ∧ r.base.val = base.toNat ∧ r.limit.val = limit.toNat ∧
  r.base ≤ r.limit ∧ kindCode r.kind = kind ∧
  (delay = 0#8 ∧ r.delay = none ∨ 1 ≤ delay.toNat ∧ delay.toNat ≤ 15 ∧ r.delay = some delay.toNat)

/-- A record passes the checks exactly with the entry whose five fields it names (R117). -/
theorem regionOfRecord_eq_some_iff {valid kind delay : Byte} {base limit : BitVec 16} {r : Region} :
    regionOfRecord valid base limit kind delay = some r ↔ r.FromRecord valid base limit kind delay := by
  constructor
  · intro h
    unfold regionOfRecord at h
    split at h
    · next b l k hb hl hk =>
      obtain ⟨⟨hvalid, hle, hdelay⟩, hr⟩ := Option.ite_none_right_eq_some.1 h
      obtain rfl := Option.some.inj hr
      refine ⟨?_, pageOfWord_eq_some_iff.1 hb, pageOfWord_eq_some_iff.1 hl, hle, kindOfCode_eq_some_iff.1 hk, ?_⟩
      · obtain rfl | rfl := hvalid <;> simp
      · by_cases hzero : delay = 0#8
        · exact .inl ⟨hzero, if_pos hzero⟩
        · exact .inr ⟨by bv_omega, hdelay, if_neg hzero⟩
    · cases h
  · obtain ⟨v, b, l, k, d⟩ := r
    rintro ⟨hvalid, hb, hl, hle, hk, hdelay⟩
    obtain ⟨hflag, hv⟩ : (valid = 0#8 ∨ valid = 1#8) ∧ (valid == 1#8) = v := by
      obtain ⟨rfl, rfl⟩ | ⟨rfl, rfl⟩ := hvalid <;> simp
    obtain ⟨hmax, hd⟩ : delay.toNat ≤ 15 ∧ (if delay = 0#8 then none else some delay.toNat) = d := by
      obtain ⟨rfl, rfl⟩ | ⟨hpos, hmax, rfl⟩ := hdelay
      · simp
      · exact ⟨hmax, if_neg (by bv_omega)⟩
    rw [regionOfRecord, pageOfWord_eq_some_iff.2 hb, pageOfWord_eq_some_iff.2 hl, kindOfCode_eq_some_iff.2 hk]
    dsimp only
    rw [if_pos ⟨hflag, hle, hmax⟩, hv, hd]

/-- A record with a field out of its range gives no entry (R117). -/
theorem regionOfRecord_eq_none {valid kind delay : Byte} {base limit : BitVec 16}
    (h : 2 ≤ valid.toNat ∨ 4096 ≤ base.toNat ∨ 4096 ≤ limit.toNat ∨ limit.toNat < base.toNat ∨ 4 ≤ kind.toNat ∨
      16 ≤ delay.toNat) : regionOfRecord valid base limit kind delay = none := by
  refine Option.eq_none_iff_forall_ne_some.2 fun r hr => ?_
  obtain ⟨hvalid, hb, hl, hle, rfl, hdelay⟩ := regionOfRecord_eq_some_iff.1 hr
  have hbase := r.base.isLt
  have hlimit := r.limit.isLt
  have hkind := kindCode_lt r.kind
  have hv : valid.toNat < 2 := by
    obtain ⟨rfl, -⟩ | ⟨rfl, -⟩ := hvalid <;> decide
  have hd : delay.toNat < 16 := by
    obtain ⟨rfl, -⟩ | ⟨-, hmax, -⟩ := hdelay
    · decide
    · omega
  rw [Fin.le_def] at hle
  omega

/-! ### SET_REGION -/

theorem exec_setRegion {s : State} (h : s.linkReady) (tag n valid kind delay : Byte) (base limit : BitVec 16) :
    exec (.setRegion tag n valid base limit kind delay) s =
      .next (runSetRegion s.linkBusy tag n valid base limit kind delay) := by
  have hrun := receiveBytes_eq_runCommand h (cmd := 0x11#8) tag
    (args := [n, valid, lowByte base, highByte base, lowByte limit, highByte limit, kind, delay]) (by simp) rfl
  refine congrArg Host.Outcome.next (hrun.trans ?_)
  simp only [runCommand, wordOf_lowByte_highByte, if_true]

section
variable {s : State} (htr : s.link.transmitter = .resting) (tag : Byte) {n valid kind delay : Byte} {base limit : BitVec 16}
include htr

/-- A record that passes its checks replaces the entry, and the answer is OK (R117, R175). -/
theorem runSetRegion_ok {e : Fin 8} {r : Region} (hn : n.toNat = e.val)
    (hr : regionOfRecord valid base limit kind delay = some r) :
    runSetRegion s.linkBusy tag n valid base limit kind delay =
      ({ s with regions := s.regions.set e.val r e.isLt }).answering 0x00#8 tag [] false := by
  obtain ⟨_, he⟩ := e
  subst hn
  rw [runSetRegion, dif_pos he, hr]
  exact answerStatus_linkBusy (s := { s with regions := s.regions.set n.toNat r }) htr .ok tag

/-- An entry number above 7, or a record that fails a check, is RANGE (R117, R175). -/
theorem runSetRegion_range (h : 8 ≤ n.toNat ∨ regionOfRecord valid base limit kind delay = none) :
    runSetRegion s.linkBusy tag n valid base limit kind delay = s.answering 0x04#8 tag [] false := by
  have hanswer : answerStatus s.linkBusy .range tag = s.answering 0x04#8 tag [] false := answerStatus_linkBusy htr .range tag
  unfold runSetRegion
  split
  · next hn => rw [h.resolve_left (by omega), hanswer]
  · exact hanswer

end

/-- Settles O42: the record either gives the entry that replaces the old one, or fails a check of R117. -/
theorem setRegionReplacesOrRefuses : Obligations.SetRegionReplacesOrRefuses := by
  intro s tag n valid kind delay base limit hready
  have htr : s.link.transmitter = .resting := by
    obtain ⟨-, -, -, -, -, htr, -⟩ := hready
    exact htr
  rw [exec_setRegion hready]
  refine ⟨fun e r hn hvalid hb hl hle hkind hdelay => ?_, fun hbad => ?_⟩
  · have hentry : n.toNat = e.val := by
      rw [hn, BitVec.toNat_ofNat]
      omega
    have hrecord : r.FromRecord valid base limit kind delay :=
      ⟨hvalid, hb, hl, hle, kindCode_eq_of_mem hkind, hdelay⟩
    rw [runSetRegion_ok htr tag hentry (regionOfRecord_eq_some_iff.2 hrecord)]
  · rw [runSetRegion_range htr tag (hbad.imp_right regionOfRecord_eq_none)]

/-! ### The entry that decides -/

theorem covers_iff {r : Region} {p : PageNo} : r.covers p = true ↔ r.valid = true ∧ r.base ≤ p ∧ p ≤ r.limit := by
  simp only [Region.covers, Bool.and_eq_true, decide_eq_true_eq, and_assoc]

/-- An entry that covers the page, with no lower-numbered one that does, is the one found (R118). -/
theorem regionOf_of_lowest {s : State} {p : PageNo} {n : Fin 8} (hn : s.regions[n].covers p = true)
    (hlower : ∀ k < n, ¬ s.regions[k].covers p = true) : regionOf s p = some s.regions[n] := by
  have hfind : Fin.find? (fun k : Fin 8 => s.regions[k].covers p) = some n :=
    Fin.find?_eq_some_iff.2 ⟨hn, fun k hk => Bool.eq_false_iff.2 (hlower k hk)⟩
  rw [regionOf, ← Fin.find?_eq_find?_finRange, hfind, Option.map_some]

/-- With no entry that covers the page, none is found (R118). -/
theorem regionOf_of_uncovered {s : State} {p : PageNo} (h : ∀ k : Fin 8, ¬ s.regions[k].covers p = true) :
    regionOf s p = none := by
  rw [regionOf, Option.map_eq_none_iff, List.find?_eq_none]
  exact fun k _ => h k

theorem kindOf_of_region {s : State} {p : PageNo} {r : Region} (h : regionOf s p = some r) : kindOf s p = r.kind := by
  rw [kindOf, h]

theorem delayOf_of_region {s : State} {p : PageNo} {r : Region} (h : regionOf s p = some r) :
    delayOf s p = r.delay.getD s.settings.delay := by
  rw [delayOf, h]

/-- Settles O49: the lowest-numbered covering entry is the one found, or none is. -/
theorem lowestCoveringRegionDecides : Obligations.LowestCoveringRegionDecides := by
  intro s p
  simp only [← covers_iff]
  refine ⟨fun n hvalid hbase hlimit hlower => ?_, fun hnone => ?_⟩
  · have hregion := regionOf_of_lowest (covers_iff.2 ⟨hvalid, hbase, hlimit⟩) hlower
    refine ⟨kindOf_of_region hregion, fun d hd => ?_, fun hd => ?_⟩
    · rw [delayOf_of_region hregion, hd, Option.getD_some]
    · rw [delayOf_of_region hregion, hd, Option.getD_none]
  · have hregion := regionOf_of_uncovered hnone
    exact ⟨by rw [kindOf, hregion], by rw [delayOf, hregion]⟩

end Sys2Proof.Machine
end

section
/-! PROOF. The system port: the transaction taken, the alignment check, the outcome of each check at acceptance, the expiry of a hold and
the answer to a THROUGH write (R127 to R135, R137). -/

namespace Sys2Proof.Machine

set_option Elab.async false

/-! ### Taking the next transaction from the bus -/

/-- PORT_TRANSACTION puts the transaction at the end of those that wait, and the port takes the next if it can (R127, log 7). -/
theorem exec_portTransaction (t : Transaction) (s : State) :
    exec (.portTransaction t) s = .next (takeNextTransaction { s with bus := s.bus ++ [t] }) := by
  rfl

/-- An IDLE port out of reset takes the transaction at the head of the bus, and the job choice follows (R127, R43). -/
theorem takeNextTransaction_takes {s : State} {u : Transaction} {rest : List Transaction} (hp : s.port = .idle)
    (hf : s.frontEnd ≠ .inReset) (hb : s.bus = u :: rest) :
    takeNextTransaction s = chooseJob (takeTransaction { s with bus := rest, portAnswer := none } u) := by
  simp only [takeNextTransaction, hp, hb, if_neg hf]

/-- A busy port, a part in reset and an empty bus leave the state as it is (R127, R137). -/
theorem takeNextTransaction_waits {s : State} (h : s.port ≠ .idle ∨ s.frontEnd = .inReset ∨ s.bus = []) :
    takeNextTransaction s = s := by
  unfold takeNextTransaction
  split
  · next hp hb =>
    obtain h | hf | h := h
    · exact absurd hp h
    · exact if_pos hf
    · simp [hb] at h
  · rfl

/-- On an empty queue the block does its idle step (log 8). -/
theorem step_of_empty_queue {s : State} (h : s.pending = []) : step s = .next (takeNextTransaction s) := by
  simp only [step, h, idleStep]

/-- Settles O2: PORT_TRANSACTION and the idle step are the same taking, of the bus with and without the transaction presented. -/
theorem portTakesTheOldestTransaction : Obligations.PortTakesTheOldestTransaction := by
  intro s t u rest
  refine ⟨fun hp hf hb => ?_, fun hwait => ?_, fun hq hp hf hb => ?_, fun hq hwait => ?_⟩
  · rw [exec_portTransaction, takeNextTransaction_takes (s := { s with bus := s.bus ++ [t] }) hp hf hb]
  · rw [exec_portTransaction, takeNextTransaction_waits]
    exact hwait.imp_right Or.inl
  · rw [step_of_empty_queue hq, takeNextTransaction_takes hp hf hb]
  · rw [step_of_empty_queue hq, takeNextTransaction_waits hwait]

/-! ### The alignment check -/

/-- The lanes used are as many as the size from the address remainder 4 on (R127). -/
theorem mem_lanesUsed_iff {t : Transaction} {lane : Nat} :
    lane ∈ lanesUsed t ↔ t.address.toNat % 4 ≤ lane ∧ lane < t.address.toNat % 4 + t.size := by
  simp only [lanesUsed, List.mem_map, List.mem_range]
  constructor
  · rintro ⟨i, hi, rfl⟩
    omega
  · rintro ⟨hlow, hhigh⟩
    exact ⟨lane - t.address.toNat % 4, by omega, by omega⟩

theorem isAligned_iff {t : Transaction} :
    isAligned t = true ↔ (t.size = 1 ∨ t.size = 2 ∨ t.size = 4) ∧ t.address.toNat % t.size = 0 := by
  simp only [isAligned, Bool.and_eq_true, Bool.or_eq_true, beq_iff_eq, or_assoc]

/-- The strobes match when lane by lane a strobe stands exactly for a lane used (R129). -/
theorem strobesMatch_iff {t : Transaction} :
    strobesMatch t = true ↔ ∀ lane : Fin 4, t.strobes.getLsbD lane.val = true ↔
      t.address.toNat % 4 ≤ lane.val ∧ lane.val < t.address.toNat % 4 + t.size := by
  simp only [strobesMatch, List.all_eq_true, List.mem_range, beq_iff_eq, Fin.forall_iff]
  refine forall₂_congr fun lane _ => ?_
  rw [Bool.eq_iff_iff, List.contains_iff_mem, mem_lanesUsed_iff]

/-- Settles O9: the strobes are looked at for a write alone. -/
theorem alignmentCheckIsTheSpecs : Obligations.AlignmentCheckIsTheSpecs := by
  intro t
  rw [passesAlignment, Bool.and_eq_true, isAligned_iff, and_assoc, ← strobesMatch_iff]
  cases t.direction <;> simp

/-! ### The checks at acceptance, by their outcome -/

section
variable {s : State} {t : Transaction}

/-- ALIGN comes before every other check (R129). -/
theorem takeTransaction_align (ha : passesAlignment t = false) : takeTransaction s t = s.afterRefusal t .align := by
  simp only [takeTransaction, ha, Bool.not_false, if_true, refuse_eq_afterRefusal]

/-- A page of kind NO_ACCESS refuses reads and writes (R130, step 1). -/
theorem takeTransaction_noAccess (ha : passesAlignment t = true) (hk : kindOf s (transactionPage t) = .noAccess) :
    takeTransaction s t = s.afterRefusal t .noAccess := by
  simp [takeTransaction, ha, hk, refuse_eq_afterRefusal]

/-- A page of kind READ_ONLY refuses writes (R130, step 1). -/
theorem takeTransaction_readOnly (ha : passesAlignment t = true) (hk : kindOf s (transactionPage t) = .readOnly)
    (hd : t.direction = .write) : takeTransaction s t = s.afterRefusal t .readOnly := by
  simp [takeTransaction, ha, hk, hd, refuse_eq_afterRefusal]

/-- In STARTING what passes alignment and kind is held for the end of start-up (R130, step 2). -/
theorem takeTransaction_holds (hf : s.frontEnd = .starting) (ha : passesAlignment t = true)
    (hn : kindOf s (transactionPage t) ≠ .noAccess)
    (hr : ¬(kindOf s (transactionPage t) = .readOnly ∧ t.direction = .write)) :
    takeTransaction s t = beginHold s t (kindOf s (transactionPage t)) .start := by
  rw [takeTransaction, ha, if_neg (by simp), if_neg hn, if_neg hr, if_pos hf]

/-- Out of STARTING a write to a BUFFERED or THROUGH page goes on to the further checks (R130). -/
theorem takeTransaction_staged (ha : passesAlignment t = true)
    (hk : kindOf s (transactionPage t) = .buffered ∨ kindOf s (transactionPage t) = .through) (hf : s.frontEnd ≠ .starting) :
    takeTransaction s t = continueChecks s t (kindOf s (transactionPage t)) := by
  refine takeTransaction_continues ha ?_ ?_ hf
  all_goals obtain hk | hk := hk <;> simp [hk]

/-- The staging buffer refuses a write to a blocked page before it looks for a line (R98, R136). -/
theorem takeWrite_blocked (hb : isBlocked s (transactionPage t) = true) (k : AccessKind) :
    takeWrite s t k = s.afterRefusal t .failedPage := by
  rw [takeWrite, if_pos hb, refuse_eq_afterRefusal]

/-- A write in READY to a blocked page of a sector not named is refused FAILED_PAGE (R130, step 4). -/
theorem continueChecks_failedPage {k : AccessKind} (hd : t.direction = .write) (hf : s.frontEnd = .ready)
    (hq : isNamed s (sectorOf (transactionPage t)) = false) (hb : isBlocked s (transactionPage t) = true) :
    continueChecks s t k = s.afterRefusal t .failedPage := by
  rw [continueChecks_write hd hf hq, takeWrite_blocked hb]

/-- A transaction whose taking leaves nothing to start: the step is the taking (R43). -/
theorem exec_portTransaction_of_taken {u : State} (hp : s.portReady) (htake : takeTransaction { s with portAnswer := none } t = u)
    (hu : u.nothingToStart) : exec (.portTransaction t) s = .next u := by
  rw [exec_portTransaction_of_ready hp, htake, chooseJob_of_nothingToStart hu]

/-- A transaction refused as it is taken: nothing but the port and the log changes (R135). -/
theorem exec_portTransaction_refused {r : RefusedReason} (hp : s.portReady) (hn : s.nothingToStart)
    (htake : takeTransaction { s with portAnswer := none } t = ({ s with portAnswer := none } : State).afterRefusal t r) :
    exec (.portTransaction t) s = .next (s.afterRefusal t r) :=
  exec_portTransaction_of_taken hp htake hn

/-- A transaction answered DRAIN as it is taken: no entry is made, and the port stays IDLE (R130, R135). -/
theorem exec_portTransaction_drain (hp : s.portReady) (hn : s.nothingToStart)
    (htake : takeTransaction { s with portAnswer := none } t = answer { s with portAnswer := none } (.error .drain)) :
    exec (.portTransaction t) s = .next { s with portAnswer := some (.error .drain) } := by
  have hidle : answer { s with portAnswer := none } (.error .drain) = { s with portAnswer := some (.error .drain) } := by
    rw [answer, ← hp.1]
  exact exec_portTransaction_of_taken hp (htake.trans hidle) hn

end

/-! ### The statements on acceptance -/

/-- Settles O10: each clause names the check that the taking of the transaction stops at. -/
theorem refusalsAtAcceptance : Obligations.RefusalsAtAcceptance := by
  intro s t hp hn
  refine ⟨fun ha => ?_, fun ha hk => ?_, fun ha hk hd => ?_,
    fun ha hk hd => ⟨fun hf => ?_, fun hf hq => ?_, fun hf hq hb => ?_⟩⟩
  · exact exec_portTransaction_refused hp hn (takeTransaction_align ha)
  · exact exec_portTransaction_refused hp hn (takeTransaction_noAccess ha hk)
  · exact exec_portTransaction_refused hp hn (takeTransaction_readOnly ha hk hd)
  · have hstart : s.frontEnd ≠ .starting := by
      obtain hf | hf := hf <;> simp [hf]
    exact exec_portTransaction_drain hp hn
      (Eq.trans (takeTransaction_staged ha hk hstart) (continueChecks_drain hd hf))
  · exact exec_portTransaction_refused hp hn
      (Eq.trans (takeTransaction_staged ha hk (by simp [hf])) (continueChecks_quarantine hd hf hq))
  · exact exec_portTransaction_refused hp hn
      (Eq.trans (takeTransaction_staged ha hk (by simp [hf])) (continueChecks_failedPage hd hf hq hb))

/-- Settles O11: what passes alignment and kind is held, and in STARTING no job is chosen behind it. -/
theorem startingHoldsTransactions : Obligations.StartingHoldsTransactions := by
  intro s t hp hf ha hn hr
  rw [exec_portTransaction_of_ready hp, takeTransaction_holds (s := { s with portAnswer := none }) hf ha hn hr,
    chooseJob_of_starting]
  · rfl
  · exact hf

/-! ### The expiry of a hold -/

/-- The expiry refuses the held transaction with the reason of the hold's cause (R131). -/
theorem exec_holdTimerExpiry_of_held {s : State} {t : Transaction} {k : AccessKind} {c : HoldCause} {w : Nat}
    (hp : s.port = .held t k c w) : exec .holdTimerExpiry s = .next (s.afterRefusal t (expiryReason c)) := by
  simp only [exec, execHoldTimerExpiry, holdExpires, hp, refuse_eq_afterRefusal]

/-- Settles O17: the three causes are three reasons of the one expiry. -/
theorem holdExpiryRefusesByCause : Obligations.HoldExpiryRefusesByCause := by
  intro s t k w
  exact ⟨exec_holdTimerExpiry_of_held, exec_holdTimerExpiry_of_held, exec_holdTimerExpiry_of_held⟩

/-! ### The answer to a THROUGH write -/

/-- THROUGH_ANSWER looks at the state of the line that the write waits on (R134). -/
theorem exec_throughAnswer_of_wait {s : State} {t : Transaction} {k : AccessKind} {i : LineNo} (hp : s.port = .commitWait t k i) :
    exec .throughAnswer s = .next
      (if s.lines[i].state = .free then answer s (.okay [])
      else if s.lines[i].state = .failed then
        answer (updateLine s i fun l => { l with through := false }) (.error .commitFail)
      else s) := by
  simp only [exec, execThroughAnswer, answerThrough, hp]

/-- Settles O21: FREE, FAILED, and the two states in which the wait goes on. -/
theorem throughAnswerFollowsTheLine : Obligations.ThroughAnswerFollowsTheLine := by
  intro s t k i hp
  rw [exec_throughAnswer_of_wait hp]
  refine ⟨fun hfree => ?_, fun hfailed => ?_, fun hwaits => ?_⟩
  · rw [if_pos hfree]
    rfl
  · rw [if_neg (by rw [hfailed]; decide), if_pos hfailed]
    rfl
  · obtain hstate | hstate := hwaits
    all_goals rw [if_neg (by rw [hstate]; decide), if_neg (by rw [hstate]; decide)]

end Sys2Proof.Machine
end

section
/-! PROOF. The power warning and the drain test: the seals and the refusal of the drain entry, and the test as one equation (R30, R35, R147
to R149). -/

namespace Sys2Proof.Machine

set_option Elab.async false

/-! ### The drain test -/

/-- The drain test decides the front-end state alone (R148). -/
theorem drainTest_eq (s : State) :
    drainTest s = { s with
      frontEnd := if s.frontEnd = .draining ∧ s.commitQueue = [] ∧ s.job = none ∧ s.nothingPending then .drained
        else s.frontEnd } := by
  unfold drainTest
  split <;> rfl

theorem exec_drained (s : State) : exec .drained s = .next (drainTest s) := rfl

/-- Settles O8: the condition of the test holds, or one of its parts does not. -/
theorem drainTestAssertsDrained : Obligations.DrainTestAssertsDrained := by
  refine fun s => ⟨fun hf hq hj hn => ?_, fun hunmet => ?_⟩
  · rw [exec_drained, drainTest_eq, if_pos ⟨hf, hq, hj, hn⟩]
  · have hcondition : ¬(s.frontEnd = .draining ∧ s.commitQueue = [] ∧ s.job = none ∧ s.nothingPending) := by tauto
    rw [exec_drained, drainTest_eq, if_neg hcondition]

/-! ### The drain entry -/

/-- Sealing a line leaves all but the lines and the queue. -/
theorem sealLine_eq (s : State) (i : LineNo) :
    sealLine s i = { s with lines := (sealLine s i).lines, commitQueue := (sealLine s i).commitQueue } := by
  unfold sealLine
  split <;> rfl

theorem sealLines_eq (s : State) (is : List LineNo) :
    sealLines s is = { s with lines := (sealLines s is).lines, commitQueue := (sealLines s is).commitQueue } := by
  unfold sealLines
  induction is generalizing s with
  | nil => rfl
  | cons i is ih =>
    rw [List.foldl_cons, ih (sealLine s i), sealLine_eq s i]

theorem mem_linesByAge_iff {s : State} (h : s.linesLaw) {st : LineState} (hst : st ≠ .free) {k : LineNo} :
    k ∈ linesByAge s st ↔ s.lines[k].state = st := by
  refine ⟨mem_linesByAge, fun hk => List.mem_filter.2 ⟨(mem_ageList_iff h).2 (hk ▸ hst), ?_⟩⟩
  exact beq_iff_eq.2 hk

/-- Sealing every OPEN line (R34, R35). -/
theorem sealAll_get {s : State} (h : s.linesLaw) (i : LineNo) :
    (sealAll s).lines[i] = if s.lines[i].state = .open then { s.lines[i] with state := .sealed } else s.lines[i] := by
  simp only [sealAll, sealLines_get, mem_linesByAge_iff h (st := .open) (by simp), and_self]

/-- The OPEN lines join the queue in age-list order, and all but the lines and the queue stays (R34, R35). -/
theorem sealAll_eq {s : State} (h : s.linesLaw) :
    sealAll s = { s with lines := (sealAll s).lines, commitQueue := s.commitQueue ++ linesByAge s .open } := by
  have hopen : (linesByAge s .open).filter (fun i => s.lines[i].state == .open) = linesByAge s .open :=
    List.filter_eq_self.2 fun i hi => beq_iff_eq.2 (mem_linesByAge hi)
  have hqueue : (sealAll s).commitQueue = s.commitQueue ++ linesByAge s .open := by
    rw [sealAll, sealLines_commitQueue s _ (show (linesByAge s .open).Nodup from h.1.filter _), hopen]
  rw [← hqueue]
  exact sealLines_eq s _

/-- A write held for a line is refused DRAIN, without an entry; nothing else is (R30, R35). -/
theorem refuseHeldForLine_eq (s : State) :
    refuseHeldForLine s = { s with
      port := if s.holdsForLine then .idle else s.port
      portAnswer := if s.holdsForLine then some (.error .drain) else s.portAnswer } := by
  unfold refuseHeldForLine
  split
  · next hp => simp only [State.holdsForLine, hp, if_true, answer]
  · next hother =>
    have hnone : s.holdsForLine = false := by
      unfold State.holdsForLine
      split
      · next hp => exact absurd hp (hother _ _ _)
      · rfl
    rw [hnone]
    rfl

theorem drainEntry_eq {s : State} (h : s.linesLaw) :
    drainEntry s = { s with
      lines := (sealAll s).lines, commitQueue := s.commitQueue ++ linesByAge s .open,
      port := if s.holdsForLine then .idle else s.port,
      portAnswer := if s.holdsForLine then some (.error .drain) else s.portAnswer } := by
  have hport : (sealAll s).holdsForLine = s.holdsForLine := by simp [State.holdsForLine]
  rw [drainEntry, refuseHeldForLine_eq, hport, sealAll_eq h]

theorem enterDraining_lines (s : State) : (enterDraining s).lines = (sealAll { s with frontEnd := .draining }).lines := by
  simp [enterDraining, drainEntry]

/-- The drain entry and the drain test of what it leaves, as one value (R35, R147, R148). -/
theorem enterDraining_eq {s : State} (h : s.linesLaw) :
    enterDraining s = { s with
      lines := (enterDraining s).lines, commitQueue := s.commitQueue ++ linesByAge s .open,
      port := if s.holdsForLine then .idle else s.port,
      portAnswer := if s.holdsForLine then some (.error .drain) else s.portAnswer,
      frontEnd :=
        if s.commitQueue ++ linesByAge s .open = [] ∧ s.job = none ∧ s.nothingPending then .drained else .draining } := by
  have hentry := drainEntry_eq (s := { s with frontEnd := .draining }) h
  rw [enterDraining_lines, enterDraining, drainTest_eq, hentry]
  simp only [true_and]
  rfl

/-! ### The PWARN input -/

theorem exec_pwarnAsserted_of_ready {s : State} (hf : s.frontEnd = .ready) :
    exec .pwarnAsserted s = .next (chooseJob (enterDraining { s with pwarn := true, pwarnNoted := true })) := by
  simp only [exec, execPwarnAsserted, pwarnRises, hf]

/-- Settles O5: in READY the drain entry and the choice; elsewhere out of reset the noted level alone. -/
theorem pwarnAssertedBeginsTheDrain : Obligations.PwarnAssertedBeginsTheDrain := by
  intro s h
  refine ⟨fun hf => ⟨_, exec_pwarnAsserted_of_ready hf, ?_, fun i => ?_⟩, fun hf => ?_⟩
  · exact enterDraining_eq (s := { s with pwarn := true, pwarnNoted := true }) h
  · rw [enterDraining_lines]
    exact sealAll_get (s := { s with pwarn := true, pwarnNoted := true, frontEnd := .draining }) h i
  · obtain hf | hf | hf := hf
    all_goals simp only [exec, execPwarnAsserted, pwarnRises, hf]

/-- Settles O6: the level is noted, and DRAINING and DRAINED become READY. -/
theorem pwarnDeassertedReturnsToReady : Obligations.PwarnDeassertedReturnsToReady := by
  intro s
  constructor
  all_goals
    rintro (hf | hf)
    all_goals simp only [exec, execPwarnDeasserted, pwarnFalls, hf]

end Sys2Proof.Machine
end

section
/-! PROOF. The end of a job with nothing left to start, and the deferred response of a FLUSH: at once, behind the sync answer, or not yet
(R54, R148, R162, R167, R169, R177). -/

namespace Sys2Proof.Machine

set_option Elab.async false

/-! ### Responses on a BUSY link -/

section
variable {s : State} (hbusy : s.link.state = .busy)
include hbusy

/-- On a BUSY link that sends nothing a response begins at once (R167). -/
theorem respond_at_once (hrest : s.link.transmitter = .resting) (tag : Byte) (data : List Byte) :
    respond s (dataResponse tag data) = s.answering 0x00#8 tag data false := by
  have hself : { s with link := { s.link with state := .busy } } = s := by rw [← hbusy]
  have hanswer := respond_answering hrest .ok tag data false
  rwa [hself] at hanswer

/-- A response built while the sync answer is being sent follows it (R162). -/
theorem respond_behind {behind : Option Response} (hsync : s.link.transmitter = .syncAnswer behind) (r : Response) :
    respond s r = { s with link := { s.link with transmitter := .syncAnswer (some r) } } := by
  simp [respond, hbusy, hsync]

end

/-! ### The deferred FLUSH -/

theorem flushCondition_iff {s : State} : flushCondition s = true ↔ s.commitQueue = [] ∧ s.job = none := by
  simp [flushCondition]

/-- No response is deferred, or the condition is not met (R177). -/
theorem flushTest_waits {s : State} (h : s.commitQueue ≠ [] ∨ s.job.isSome = true ∨ s.unit.deferred = none) :
    flushTest s = s := by
  unfold flushTest
  split
  · next tag hd =>
    have hunmet : ¬ flushCondition s = true := by
      rw [flushCondition_iff]
      rintro ⟨hq, hj⟩
      simp [hq, hj, hd] at h
    rw [if_neg hunmet]
  · rfl

/-- `s` with no response deferred. -/
def State.undeferred (s : State) : State := { s with unit := { s.unit with deferred := none } }

section
variable {s : State} {tag failed : Byte} (hq : s.commitQueue = []) (hj : s.job = none) (hd : s.unit.deferred = some tag)
  (hf : failed = BitVec.ofNat 8 (linesIn s .failed))
include hq hj hd hf

/-- The condition met, the response OK with the number of FAILED lines is built, and deferred no longer (R169, R177). -/
theorem flushTest_answers : flushTest s = respond s.undeferred (dataResponse tag [failed]) := by
  simp only [flushTest, hd, flushCondition_iff.2 ⟨hq, hj⟩, if_true, hf, State.undeferred]

variable (hbusy : s.link.state = .busy)
include hbusy

theorem flushTest_at_once (hrest : s.link.transmitter = .resting) :
    flushTest s = s.undeferred.answering 0x00#8 tag [failed] false := by
  rw [flushTest_answers hq hj hd hf]
  exact respond_at_once (s := s.undeferred) hbusy hrest tag [failed]

theorem flushTest_behind {behind : Option Response} (hsync : s.link.transmitter = .syncAnswer behind) :
    flushTest s =
      { s.undeferred with link := { s.link with transmitter := .syncAnswer (some (dataResponse tag [failed])) } } := by
  rw [flushTest_answers hq hj hd hf]
  exact respond_behind (s := s.undeferred) hbusy hsync _

end

/-! ### The end of a job -/

/-- `s` with the job record, the operation record and the contents of the buffer gone (R54, R64). -/
def State.withoutJob (s : State) : State := { s with job := none, op := none, buffer := .empty }

/-- With nothing queued, running or pending the drain test meets DRAINING (R148). -/
theorem drainTest_of_nothingLeft {s : State} (hq : s.commitQueue = []) (hj : s.job = none) (hn : s.nothingPending) :
    drainTest s = { s with frontEnd := if s.frontEnd = .draining then .drained else s.frontEnd } := by
  have hmet : (s.frontEnd = .draining ∧ s.commitQueue = [] ∧ s.job = none ∧ s.nothingPending) ↔ s.frontEnd = .draining :=
    ⟨And.left, fun hf => ⟨hf, hq, hj, hn⟩⟩
  simp only [drainTest_eq, hmet]

/-- With nothing further to start the job choice takes nothing, and the tests end the step (R54, R55, R148, R177). -/
theorem endJob_of_nothingToStart {s : State} (hq : s.commitQueue = []) (hn : s.nothingPending) :
    endJob s = flushTest { s.withoutJob with
      frontEnd := if s.frontEnd = .draining then .drained else s.frontEnd } := by
  have hchoice : chooseJob s.withoutJob = s.withoutJob := chooseJob_of_nothingToStart (Or.inr ⟨hq, hn⟩)
  have hdrain := drainTest_of_nothingLeft (s := s.withoutJob) hq rfl hn
  exact congrArg flushTest ((congrArg drainTest hchoice).trans hdrain)

/-! ### The statement -/

/-- Settles O34: the end of the job comes to the test for a deferred FLUSH, which is also the command of its own. -/
theorem flushAnswerFollowsTheLastJob : Obligations.FlushAnswerFollowsTheLastJob := by
  refine fun s => ⟨?_, ?_, fun hwaits => congrArg Host.Outcome.next (flushTest_waits hwaits)⟩
  · intro u hu hq hn
    have hend : endJob s = flushTest u := hu ▸ endJob_of_nothingToStart hq hn
    have hqueue : u.commitQueue = [] := hu ▸ hq
    have hjob : u.job = none := hu ▸ rfl
    have hunit : u.unit = s.unit := hu ▸ rfl
    have hlink : u.link = s.link := hu ▸ rfl
    have hlines : u.lines = s.lines := hu ▸ rfl
    rw [hend, ← hunit, ← hlink, ← hlines]
    refine ⟨fun hd => flushTest_waits (Or.inr (Or.inr hd)), ?_⟩
    rintro tag failed v hd hbusy hf rfl
    exact ⟨flushTest_at_once hqueue hjob hd hf hbusy, fun behind => flushTest_behind hqueue hjob hd hf hbusy⟩
  · rintro tag failed v hd hbusy hf rfl hq hj
    exact ⟨fun hrest => congrArg Host.Outcome.next (flushTest_at_once hq hj hd hf hbusy hrest),
      fun behind hsync => congrArg Host.Outcome.next (flushTest_behind hq hj hd hf hbusy hsync)⟩

end Sys2Proof.Machine
end

section
/-! PROOF. The start-up scan: the completions it receives, the class of a journal by its blank check, its header and the sum of its
copy, and what follows each classification (R140 to R142, R145). -/

namespace Sys2Proof.Machine

set_option Elab.async false

/-! ### The header (R141) -/

/-- The target field is a number of two bytes, low byte first. -/
theorem headerTarget_toNat (p : Page) : (headerTarget p).toNat = p[0].toNat + 256 * p[1].toNat := by
  have hlow := p[0].isLt
  rw [headerTarget, wordOf, BitVec.toNat_append, ← Nat.shiftLeft_add_eq_or_of_lt hlow, Nat.shiftLeft_eq]
  omega

theorem headerSector_of_target {jn : Journal} {header : Page} {sec : SectorNo} (hsec : journalFor sec = jn)
    (ht : header[0].toNat + 256 * header[1].toNat = sec.val) : headerSector jn header = some sec := by
  rw [← headerTarget_toNat] at ht
  have hlt : (headerTarget header).toNat < 256 := ht ▸ sec.isLt
  have hval : (⟨(headerTarget header).toNat, hlt⟩ : SectorNo) = sec := Fin.ext ht
  simp only [headerSector, hlt, dif_pos, hval, hsec, if_true]

theorem headerSector_of_no_target {jn : Journal} {header : Page}
    (h : ∀ sec : SectorNo, journalFor sec = jn → header[0].toNat + 256 * header[1].toNat ≠ sec.val) :
    headerSector jn header = none := by
  unfold headerSector
  dsimp only
  split
  · split
    · next hlt hsec => exact absurd (headerTarget_toNat header).symm (h _ hsec)
    · rfl
  · rfl

/-- COPY_DONE not set, or RESTORE_DONE set: SPENT (R141, R142). -/
theorem scanHeader_spent {header : Page} {s : State} {jn : Journal} (h : header[4] = 0xFF#8 ∨ header[5] ≠ 0xFF#8) :
    scanHeader s jn header = classifyAs s jn .spent := by
  unfold scanHeader
  split
  · rfl
  · next hdone =>
    have hcopy : header[4] ≠ 0xFF#8 := by simpa [copyDoneSet] using hdone
    have hrestore : restoreDoneSet header = true := by simpa [restoreDoneSet] using h.resolve_left hcopy
    rw [if_pos hrestore]

section
variable {s : State} {jn : Journal} {header : Page} (hcopy : header[4] ≠ 0xFF#8) (hrestore : header[5] = 0xFF#8)
include hcopy hrestore

/-- With the copy done and not yet restored, a target field that names no sector of the other bank is CORRUPT (R141, R142). -/
theorem scanHeader_corrupt (hnone : headerSector jn header = none) :
    scanHeader s jn header = classifyCorrupt s jn (headerTarget header) := by
  simp [scanHeader, copyDoneSet, restoreDoneSet, hcopy, hrestore, hnone]

/-- With a sector named, its copy is read from page 1 on (R141). -/
theorem scanHeader_copy {sec : SectorNo} (hsec : headerSector jn header = some sec) :
    scanHeader s jn header = scanReadCopy s jn sec (headerCheck header) 0 0 := by
  simp [scanHeader, copyDoneSet, restoreDoneSet, hcopy, hrestore, hsec]

end

/-! ### The completions of the scan -/

/-- A page read with no job running goes to the scan (R5, R141). -/
theorem exec_readPageComplete_of_no_job {s : State} (hj : s.job = none) {jn : Journal} {k : Fin 17}
    (hop : s.op = some (.readPage (.journal jn k))) :
    exec .readPageComplete s = .next (evaluateHeldRead (journalBank jn)
      (scanRead (removeOp s) (readCells s.cells (.journal jn k)))) := by
  simp only [exec, execReadPageComplete, readPageCompletes, hop, readPageDelivered, hj, CellPage.target, Target.bank]

section
variable {s u : State} {jn : Journal} (hf : s.frontEnd = .starting) (hj : s.job = none)
include hf hj

/-- A blank check of the scan completes: BLANK, or the header is read (R141). -/
theorem exec_blankCheckComplete_of_scan (hop : s.op = some (.blankCheck (.journal jn))) (hs : s.scan = .blankCheck jn) :
    exec .blankCheckComplete s = .next (evaluateHeldRead (journalBank jn)
      (if isBlank s.cells (.journal jn) then classifyAs (removeOp s) jn .blank
        else { s with scan := .headerRead jn, op := some (.readPage (headerPage jn)) })) := by
  have hscan : scanBlank (removeOp s) (isBlank s.cells (.journal jn)) =
      if isBlank s.cells (.journal jn) then classifyAs (removeOp s) jn .blank
      else { s with scan := .headerRead jn, op := some (.readPage (headerPage jn)) } := by
    simp only [scanBlank, removeOp_frontEnd, removeOp_scan, hf, hs]
    rfl
  rw [← hscan]
  simp only [exec, execBlankCheckComplete, blankCheckCompletes, hop, blankCheckDelivered, hj, Target.bank]

/-- The header has been read (R141). -/
theorem exec_readPageComplete_of_header (hop : s.op = some (.readPage (headerPage jn))) (hs : s.scan = .headerRead jn)
    (hu : scanHeader (removeOp s) jn (readCells s.cells (headerPage jn)) = u) :
    exec .readPageComplete s = .next (evaluateHeldRead (journalBank jn) u) := by
  rw [exec_readPageComplete_of_no_job hj hop, ← hu]
  simp only [scanRead, removeOp_frontEnd, removeOp_scan, hf, hs, headerPage]

/-- A page of the copy has been read (R141). -/
theorem exec_readPageComplete_of_copy {sec : SectorNo} {check sum : BitVec 16} {k : Fin 16}
    (hop : s.op = some (.readPage (copyPage jn k))) (hs : s.scan = .copyRead jn sec check k sum)
    (hu : scanCopy (removeOp s) jn sec check k sum (readCells s.cells (copyPage jn k)) = u) :
    exec .readPageComplete s = .next (evaluateHeldRead (journalBank jn) u) := by
  rw [exec_readPageComplete_of_no_job hj hop, ← hu]
  simp only [scanRead, removeOp_frontEnd, removeOp_scan, hf, hs, copyPage]

end

/-! ### The sum of the copy (R141, R142) -/

section
variable {s : State} {jn : Journal} {sec : SectorNo} {check sum : BitVec 16} {page : Page}

theorem scanCopy_next {k : Fin 16} (h : k.val + 1 < 16) :
    scanCopy s jn sec check k sum page = scanReadCopy s jn sec check ⟨k.val + 1, h⟩ (sum + pageSum page) := dif_pos h

theorem scanCopy_open (h : sum + pageSum page = check) :
    scanCopy s jn sec check 15 sum page = classifyAs s jn (.openFor sec) := if_pos h

theorem scanCopy_corrupt (h : sum + pageSum page ≠ check) :
    scanCopy s jn sec check 15 sum page = classifyCorrupt s jn (BitVec.ofNat 16 sec.val) := if_neg h

end

/-! ### What follows the classifications (R140) -/

section
variable {s : State} {sec : SectorNo}

theorem scanFourthStep_of_open (h : s.journals.one = .openFor sec) : scanFourthStep s = startReplay s .j1 sec := by
  simp only [scanFourthStep, h]

theorem scanFourthStep_of_not_open (h : ∀ sec, s.journals.one ≠ .openFor sec) :
    scanFourthStep s = endStartup { s with scan := .ended } := by
  unfold scanFourthStep
  split
  · next sec hopen => exact absurd hopen (h sec)
  · rfl

theorem scanThirdStep_of_open (h : s.journals.zero = .openFor sec) : scanThirdStep s = startReplay s .j0 sec := by
  simp only [scanThirdStep, h]

theorem scanThirdStep_of_not_open (h : ∀ sec, s.journals.zero ≠ .openFor sec) : scanThirdStep s = scanFourthStep s := by
  unfold scanThirdStep
  split
  · next sec hopen => exact absurd hopen (h sec)
  · rfl

end

/-- The REPLAY from J0 goes before that from J1 (R140). -/
theorem scanThirdStep_replays {s : State} {src : Journal} {sec : SectorNo} (hopen : journalState s src = .openFor sec)
    (hfirst : src = .j1 → ∀ t, s.journals.zero ≠ .openFor t) : scanThirdStep s = startReplay s src sec := by
  cases src with
  | j0 => exact scanThirdStep_of_open hopen
  | j1 => exact (scanThirdStep_of_not_open (hfirst rfl)).trans (scanFourthStep_of_open hopen)

theorem scanThirdStep_ends {s : State} (h : ∀ (src : Journal) sec, journalState s src ≠ .openFor sec) :
    scanThirdStep s = endStartup { s with scan := .ended } :=
  (scanThirdStep_of_not_open (h .j0)).trans (scanFourthStep_of_not_open (h .j1))

/-! ### The statement -/

/-- Settles O33: each completion of the scan is one value, and the class it comes to is decided by one lemma. -/
theorem scanClassifiesTheJournals : Obligations.ScanClassifiesTheJournals := by
  refine fun s jn hf hj => ⟨fun hop hs => ?_, ?_, ?_, ?_, ?_⟩
  · rw [exec_blankCheckComplete_of_scan hf hj hop hs]
    refine ⟨fun hblank => ?_, fun hbyte => ?_⟩
    · rw [if_pos ((isBlank_iff _ (.journal jn)).2 hblank)]
      rfl
    · obtain ⟨o, ho, hne⟩ := hbyte
      rw [if_neg fun hb => hne ((isBlank_iff _ (.journal jn)).1 hb o ho)]
  · rintro header hop hs rfl
    have hread := fun {u : State} => exec_readPageComplete_of_header (u := u) hf hj hop hs
    refine ⟨fun hspent => hread (scanHeader_spent hspent), fun hcopy hrestore => ⟨fun hnone => ?_, fun sec hsec ht => ?_⟩⟩
    · exact hread (scanHeader_corrupt hcopy hrestore (headerSector_of_no_target hnone))
    · exact hread (scanHeader_copy hcopy hrestore (headerSector_of_target hsec ht))
  · intro k sec check sum hop hs
    have hread := fun {u : State} => exec_readPageComplete_of_copy (u := u) hf hj hop hs
    refine ⟨fun hlt => hread (scanCopy_next hlt), ?_, ?_⟩
    · rintro rfl hsum
      exact hread (scanCopy_open hsum)
    · rintro rfl hsum
      exact hread (scanCopy_corrupt hsum)
  · rintro rfl
    rfl
  · rintro rfl
    exact ⟨fun src sec hopen hfirst => scanThirdStep_replays hopen hfirst, scanThirdStep_ends⟩

end Sys2Proof.Machine
end

section
/-! PROOF. Every step keeps the law of the fault log: the law looks at the log alone, an append and an acknowledgement keep it, and a
reset empties the log (R152, R154, R155, R159). -/

namespace Sys2Proof.Machine

set_option Elab.async false

/-! ### The law, and the changes of the log -/

/-- The law of the fault log, said of the log itself (R152). -/
def FaultLog.lawful (l : FaultLog) : Prop :=
  l.entries.length ≤ 16 ∧ l.dropped ≤ 255 ∧
  ∀ k : Fin 16, ∀ e, l.entries[k.val]? = some e → e.seq + BitVec.ofNat 16 (l.entries.length - k.val) = l.nextSeq

theorem logLaw_iff {s : State} : s.logLaw ↔ s.log.lawful := Iff.rfl

/-- With an entry more, an old entry lies one further from the next number. -/
theorem ofNat_succ_sub {n k : Nat} (h : k ≤ n) :
    BitVec.ofNat 16 (n + 1 - k) = BitVec.ofNat 16 (n - k) + 1 := by
  rw [Nat.sub_add_comm h, BitVec.ofNat_add]
  rfl

/-- An append keeps the law: a kept entry takes the next number, a dropped one is counted up to 255 (R154). -/
theorem lawful_append {l : FaultLog} (h : l.lawful) (kind : FaultKind) : (l.append kind).lawful := by
  obtain ⟨hlen, hdropped, hseq⟩ := h
  unfold FaultLog.append
  split
  · next hroom =>
    refine ⟨by simpa using hroom, hdropped, fun k e he => ?_⟩
    dsimp only at he ⊢
    rw [List.length_append, List.length_singleton]
    by_cases hk : k.val < l.entries.length
    · rw [List.getElem?_append_left hk] at he
      rw [ofNat_succ_sub hk.le, ← BitVec.add_assoc, hseq k e he]
    · rw [List.getElem?_append_right (not_lt.1 hk), List.getElem?_singleton] at he
      split at he
      · next hlast =>
        obtain rfl := Option.some.inj he
        have hnewest : l.entries.length + 1 - k.val = 1 := by omega
        rw [hnewest]
        rfl
      · cases he
  · exact ⟨hlen, Nat.min_le_left _ _, hseq⟩

theorem droppedAfter_le (clear : Byte) (l : FaultLog) : droppedAfter clear l ≤ l.dropped := by
  unfold droppedAfter
  split
  · exact Nat.zero_le _
  · exact le_rfl

/-- A cleared dropped count keeps the law (R155). -/
theorem lawful_clear {l : FaultLog} (h : l.lawful) (clear : Byte) :
    FaultLog.lawful { l with dropped := droppedAfter clear l } := by
  obtain ⟨hlen, hdropped, hseq⟩ := h
  exact ⟨hlen, (droppedAfter_le clear l).trans hdropped, hseq⟩

/-- The removal of the oldest entry leaves the numbers of the others and the next number (R155). -/
theorem lawful_removeOldest {l : FaultLog} (h : l.lawful) {e : FaultEntry} {rest : List FaultEntry}
    (he : l.entries = e :: rest) : FaultLog.lawful { l with entries := rest } := by
  obtain ⟨hlen, hdropped, hseq⟩ := h
  rw [he, List.length_cons] at hlen
  refine ⟨(Nat.le_succ _).trans hlen, hdropped, fun k e' he' => ?_⟩
  have hk : k.val < rest.length := (List.getElem?_eq_some_iff.1 he').1
  have hold := hseq ⟨k.val + 1, by omega⟩ e' (by rwa [he])
  rwa [he, List.length_cons, Nat.add_sub_add_right] at hold

/-- A state with the log of one that has the law has it too. -/
theorem logLaw_of_frame {s t : State} (h : s.logLaw) (hl : t.log = s.log := by simp) : t.logLaw := by
  rw [logLaw_iff] at h ⊢
  rwa [hl]

/-- A state with the log of one that has the law, and an entry more. -/
theorem logLaw_of_append {s t : State} (h : s.logLaw) (k : FaultKind) (hl : t.log = s.log.append k := by simp) : t.logLaw := by
  rw [logLaw_iff] at h ⊢
  rw [hl]
  exact lawful_append h k

theorem appendFault_logLaw {s : State} (h : s.logLaw) (k : FaultKind) : (appendFault s k).logLaw := logLaw_of_append h k

/-- A reset of any cause leaves an empty log (R159). -/
theorem partReset_logLaw (s : State) (cause : ResetCause) (left : PulseResidue) : (partReset s cause left).logLaw :=
  logLaw_of_frame reset_logLaw rfl

/-! ### Refusals, and what makes them -/

/-- A refusal makes an entry in READY and STARTING, and none in a drain (R135). -/
theorem refuse_logLaw {s : State} (h : s.logLaw) (t : Transaction) (r : RefusedReason) : (refuse s t r).logLaw := by
  unfold refuse
  split
  · exact logLaw_of_append h (.refused t.address t.direction r)
  · exact logLaw_of_frame h

theorem takeWrite_logLaw {s : State} (h : s.logLaw) (t : Transaction) (k : AccessKind) : (takeWrite s t k).logLaw := by
  unfold takeWrite
  split
  · exact refuse_logLaw h t _
  · repeat' split
    all_goals exact logLaw_of_frame h

theorem retakeHeldWrite_logLaw {s : State} (h : s.logLaw) : (retakeHeldWrite s).logLaw := by
  unfold retakeHeldWrite
  split
  · split
    · exact h
    · split
      · exact refuse_logLaw h _ _
      · split
        · exact refuse_logLaw h _ _
        · exact logLaw_of_frame h
  · exact h

theorem continueChecks_logLaw {s : State} (h : s.logLaw) (t : Transaction) (k : AccessKind) : (continueChecks s t k).logLaw := by
  unfold continueChecks
  split
  · exact logLaw_of_frame h
  · split
    · exact logLaw_of_frame h
    · split
      · exact refuse_logLaw h t _
      · exact takeWrite_logLaw h t k

theorem takeTransaction_logLaw {s : State} (h : s.logLaw) (t : Transaction) : (takeTransaction s t).logLaw := by
  unfold takeTransaction
  repeat' split
  · exact refuse_logLaw h t _
  · exact refuse_logLaw h t _
  · exact refuse_logLaw h t _
  · exact logLaw_of_frame h
  · exact continueChecks_logLaw h t _

theorem chooseJob_logLaw {s : State} (h : s.logLaw) : (chooseJob s).logLaw := logLaw_of_frame h

theorem takeNextTransaction_logLaw {s : State} (h : s.logLaw) : (takeNextTransaction s).logLaw := by
  unfold takeNextTransaction
  split
  · split
    · exact h
    · exact chooseJob_logLaw (takeTransaction_logLaw (logLaw_of_frame h) _)
  · exact h

theorem startHoldResume_logLaw {s : State} (h : s.logLaw) : (startHoldResume s).logLaw := by
  unfold startHoldResume
  split
  · split
    · exact h
    · exact continueChecks_logLaw h _ _
  · exact h

theorem holdExpires_logLaw {s : State} (h : s.logLaw) : (holdExpires s).logLaw := by
  unfold holdExpires
  split
  · exact refuse_logLaw h _ _
  · exact h

/-- Lines that retire may let a held write in, or have it refused (R29). -/
theorem handBackRetired_logLaw {s : State} (h : s.logLaw) (is : List LineNo) : (handBackRetired s is).logLaw :=
  retakeHeldWrite_logLaw (logLaw_of_frame h)

theorem discardLines_logLaw {s : State} (h : s.logLaw) (p : PageNo) : (discardLines s p).logLaw :=
  retakeHeldWrite_logLaw (logLaw_of_frame h)

/-! ### Front-end control and the start-up scan -/

theorem endStartup_logLaw {s : State} (h : s.logLaw) : (endStartup s).logLaw :=
  chooseJob_logLaw (startHoldResume_logLaw (logLaw_of_frame h))

theorem pwarnRises_logLaw {s : State} (h : s.logLaw) : (pwarnRises s).logLaw := by
  unfold pwarnRises
  split <;> exact logLaw_of_frame h

theorem pwarnFalls_logLaw {s : State} (h : s.logLaw) : (pwarnFalls s).logLaw := by
  unfold pwarnFalls
  split <;> exact logLaw_of_frame h

theorem releaseReset_logLaw {s : State} (h : s.logLaw) : (releaseReset s).logLaw := by
  unfold releaseReset
  split
  · exact takeNextTransaction_logLaw (logLaw_of_frame h rfl)
  · exact h

theorem scanFourthStep_logLaw {s : State} (h : s.logLaw) : (scanFourthStep s).logLaw := by
  unfold scanFourthStep
  split
  · exact logLaw_of_frame h
  · exact endStartup_logLaw (logLaw_of_frame h)

theorem scanThirdStep_logLaw {s : State} (h : s.logLaw) : (scanThirdStep s).logLaw := by
  unfold scanThirdStep
  split
  · exact logLaw_of_frame h
  · exact scanFourthStep_logLaw h

theorem classifyAs_logLaw {s : State} (h : s.logLaw) (j : Journal) (v : JournalState) : (classifyAs s j v).logLaw := by
  cases j with
  | j0 => exact logLaw_of_frame h rfl
  | j1 => exact scanThirdStep_logLaw (logLaw_of_frame h)

/-- A CORRUPT journal makes a JOURNAL_CORRUPT entry (R142). -/
theorem classifyCorrupt_logLaw {s : State} (h : s.logLaw) (j : Journal) (target : BitVec 16) :
    (classifyCorrupt s j target).logLaw :=
  classifyAs_logLaw (appendFault_logLaw h _) j _

theorem scanReadCopy_logLaw {s : State} (h : s.logLaw) (j : Journal) (target : SectorNo) (check : BitVec 16) (k : Fin 16)
    (sum : BitVec 16) : (scanReadCopy s j target check k sum).logLaw :=
  logLaw_of_frame h rfl

theorem scanHeader_logLaw {s : State} (h : s.logLaw) (j : Journal) (header : Page) : (scanHeader s j header).logLaw := by
  unfold scanHeader
  repeat' split
  · exact classifyAs_logLaw h j _
  · exact classifyAs_logLaw h j _
  · exact classifyCorrupt_logLaw h j _
  · exact scanReadCopy_logLaw h j _ _ _ _

theorem scanCopy_logLaw {s : State} (h : s.logLaw) (j : Journal) (target : SectorNo) (check : BitVec 16) (k : Fin 16)
    (sum : BitVec 16) (page : Page) : (scanCopy s j target check k sum page).logLaw := by
  unfold scanCopy
  repeat' split
  · exact scanReadCopy_logLaw h j _ _ _ _
  · exact classifyAs_logLaw h j _
  · exact classifyCorrupt_logLaw h j _

theorem scanBlank_logLaw {s : State} (h : s.logLaw) (blank : Bool) : (scanBlank s blank).logLaw := by
  unfold scanBlank
  split
  · split
    · exact classifyAs_logLaw h _ _
    · exact logLaw_of_frame h
  · exact h

theorem scanRead_logLaw {s : State} (h : s.logLaw) (page : Page) : (scanRead s page).logLaw := by
  unfold scanRead
  split
  · exact scanHeader_logLaw h _ _
  · exact scanCopy_logLaw h _ _ _ _ _ _
  · exact h

/-! ### The ends of jobs -/

theorem endJob_logLaw {s : State} (h : s.logLaw) : (endJob s).logLaw := logLaw_of_frame h

theorem endReplay_logLaw {s : State} (h : s.logLaw) : (endReplay s).logLaw := by
  unfold endReplay
  dsimp only
  split
  · exact scanFourthStep_logLaw (logLaw_of_frame h)
  · exact endStartup_logLaw (logLaw_of_frame h)

theorem commitSucceeds_logLaw {s : State} (h : s.logLaw) (j : Job) : (commitSucceeds s j).logLaw :=
  endJob_logLaw (handBackRetired_logLaw h _)

theorem commitFails_logLaw {s : State} (h : s.logLaw) (j : Job) (page : PageNo) (cause : LoopFailure) (pulses : Nat) :
    (commitFails s j page cause pulses).logLaw :=
  endJob_logLaw (appendFault_logLaw (logLaw_of_frame h) _)

theorem journalEraseFails_logLaw {s : State} (h : s.logLaw) (j : Job) : (journalEraseFails s j).logLaw :=
  endJob_logLaw (appendFault_logLaw (logLaw_of_frame h) _)

theorem journalIsHeld_logLaw {s : State} (h : s.logLaw) (j : Job) (page : PageNo) : (journalIsHeld s j page).logLaw :=
  endJob_logLaw (appendFault_logLaw (logLaw_of_frame h) _)

theorem copyStepFails_logLaw {s : State} (h : s.logLaw) (j : Job) (step : FailedStep) (after : JournalState) :
    (copyStepFails s j step after).logLaw :=
  endJob_logLaw (logLaw_of_frame (appendFault_logLaw (logLaw_of_frame h) _) (setJournal_log _ _ _))

/-- The step of a rewrite's failure may append two entries: the refusal of a held write, and QUARANTINED (R29, R78). -/
theorem rewriteTargetFails_logLaw {s : State} (h : s.logLaw) (j : Job) (step : FaultStep) (pulses : Nat) :
    (rewriteTargetFails s j step pulses).logLaw := by
  have hretired := handBackRetired_logLaw (s := setQuarantine s j.sector .copy) (logLaw_of_frame h) (jobLines j)
  exact endJob_logLaw (appendFault_logLaw (logLaw_of_frame hretired) _)

theorem rewriteCloseFails_logLaw {s : State} (h : s.logLaw) (j : Job) (pulses : Nat) : (rewriteCloseFails s j pulses).logLaw :=
  endJob_logLaw (appendFault_logLaw (logLaw_of_frame h) _)

theorem targetFails_logLaw {s : State} (h : s.logLaw) (j : Job) (step : FaultStep) (pulses : Nat) :
    (targetFails s j step pulses).logLaw := by
  unfold targetFails recoveryTargetFails
  repeat' split
  · exact rewriteTargetFails_logLaw h j step pulses
  · exact endReplay_logLaw (appendFault_logLaw (logLaw_of_frame h) _)
  · exact endJob_logLaw (appendFault_logLaw (logLaw_of_frame h) _)

theorem closeStepSucceeds_logLaw {s : State} (h : s.logLaw) (j : Job) (after : JournalState) :
    (closeStepSucceeds s j after).logLaw := by
  have hc : (clearQuarantine (setJournal s (journalFor j.sector) after) j.sector).logLaw := logLaw_of_frame h
  unfold closeStepSucceeds
  dsimp only
  split
  · exact endReplay_logLaw (appendFault_logLaw hc _)
  · exact endJob_logLaw (appendFault_logLaw hc _)
  · exact endJob_logLaw hc

theorem closeStepFails_logLaw {s : State} (h : s.logLaw) (j : Job) (pulses : Nat) : (closeStepFails s j pulses).logLaw := by
  have hq : (setQuarantine s j.sector .cells).logLaw := logLaw_of_frame h
  unfold closeStepFails
  split
  · exact endReplay_logLaw (appendFault_logLaw hq _)
  · exact endJob_logLaw (appendFault_logLaw hq _)

/-! ### The steps of jobs -/

theorem journalCheck_logLaw {s : State} (h : s.logLaw) (j : Job) (page : PageNo) : (journalCheck s j page).logLaw := by
  unfold journalCheck
  repeat' split
  · exact logLaw_of_frame h
  · exact logLaw_of_frame h
  · exact logLaw_of_frame h
  · exact journalIsHeld_logLaw h j page
  · exact logLaw_of_frame h

/-- RETIRE hands the lines back, and a held write may be refused in the same step (R79). -/
theorem targetProgrammed_logLaw {s : State} (h : s.logLaw) (j : Job) : (targetProgrammed s j).logLaw := by
  unfold targetProgrammed
  split
  · exact logLaw_of_frame (handBackRetired_logLaw h (jobLines j)) rfl
  · exact logLaw_of_frame h

theorem programFrom_logLaw {s : State} (h : s.logLaw) (j : Job) (k : Nat) : (programFrom s j k).logLaw := by
  unfold programFrom
  repeat' split
  · exact logLaw_of_frame h
  · exact targetProgrammed_logLaw h j
  · exact h

theorem closeHeaderRead_logLaw {s : State} (h : s.logLaw) (j : Job) (header : Page) : (closeHeaderRead s j header).logLaw := by
  unfold closeHeaderRead
  split
  · exact closeStepSucceeds_logLaw h j _
  · exact logLaw_of_frame h

theorem programSucceeds_logLaw {s : State} (h : s.logLaw) (j : Job) : (programSucceeds s j).logLaw := by
  unfold programSucceeds
  split
  · exact commitSucceeds_logLaw h j
  · split <;> exact logLaw_of_frame h
  · exact logLaw_of_frame h
  · exact logLaw_of_frame h
  · exact programFrom_logLaw h j _
  · split
    · exact logLaw_of_frame h
    · exact closeStepSucceeds_logLaw h j _
  · exact h

theorem programFails_logLaw {s : State} (h : s.logLaw) (j : Job) (cause : LoopFailure) (pulses : Nat) :
    (programFails s j cause pulses).logLaw := by
  unfold programFails
  split
  · split
    · exact commitFails_logLaw h j _ cause pulses
    · exact h
  · exact copyStepFails_logLaw h j _ _
  · exact copyStepFails_logLaw h j _ _
  · exact logLaw_of_frame h
  · exact targetFails_logLaw h j _ pulses
  · exact logLaw_of_frame h
  · exact h

theorem eraseSucceeds_logLaw {s : State} (h : s.logLaw) (j : Job) : (eraseSucceeds s j).logLaw := by
  unfold eraseSucceeds
  split
  · exact logLaw_of_frame h
  · exact copyStepFails_logLaw h j _ _
  · exact programFrom_logLaw h _ _
  · split
    · exact logLaw_of_frame h
    · exact closeStepSucceeds_logLaw h j _
  · exact h

theorem eraseFails_logLaw {s : State} (h : s.logLaw) (j : Job) (pulses : Nat) : (eraseFails s j pulses).logLaw := by
  unfold eraseFails
  split
  · exact journalEraseFails_logLaw h j
  · exact copyStepFails_logLaw h j _ _
  · exact targetFails_logLaw h j _ pulses
  · split
    · exact rewriteCloseFails_logLaw h j pulses
    · exact closeStepFails_logLaw h j pulses
  · exact h

theorem preReadDone_logLaw {s : State} (h : s.logLaw) (j : Job) (page : Page) : (preReadDone s j page).logLaw := by
  unfold preReadDone
  dsimp only
  split
  · split
    · exact commitSucceeds_logLaw (logLaw_of_frame h) j
    · split
      · exact journalCheck_logLaw (logLaw_of_frame h) _ _
      · exact logLaw_of_frame h
  · exact h

/-! ### Completions -/

theorem evaluateHeldRead_logLaw {s : State} (h : s.logLaw) (b : Bank) : (evaluateHeldRead b s).logLaw := logLaw_of_frame h

theorem verifyDone_logLaw {s : State} (h : s.logLaw) (j : Job) (cp : CellPage) (image : Page) (pulses : Nat) (read : Page) :
    (verifyDone s j cp image pulses read).logLaw := by
  unfold verifyDone
  split
  · exact programSucceeds_logLaw h _
  · exact logLaw_of_frame h
  · exact programFails_logLaw h _ _ _

theorem jobReads_logLaw {s : State} (h : s.logLaw) (j : Job) (page : Page) : (jobReads s j page).logLaw := by
  unfold jobReads
  split
  · exact verifyDone_logLaw h j _ _ _ _
  · exact h
  · split
    · exact preReadDone_logLaw h j page
    · exact logLaw_of_frame h
    · exact logLaw_of_frame h
    · exact closeHeaderRead_logLaw h j page
    · exact h

theorem jobBlankCheck_logLaw {s : State} (h : s.logLaw) (j : Job) (blank : Bool) : (jobBlankCheck s j blank).logLaw := by
  unfold jobBlankCheck
  repeat' split
  · exact eraseSucceeds_logLaw h _
  · exact logLaw_of_frame h
  · exact eraseFails_logLaw h _ _
  · exact h

theorem readPageDelivered_logLaw {s : State} (h : s.logLaw) (cp : CellPage) : (readPageDelivered s cp).logLaw := by
  unfold readPageDelivered
  split
  · exact jobReads_logLaw (logLaw_of_frame h) _ _
  · exact scanRead_logLaw (logLaw_of_frame h) _

theorem blankCheckDelivered_logLaw {s : State} (h : s.logLaw) (g : Target) : (blankCheckDelivered s g).logLaw := by
  unfold blankCheckDelivered
  split
  · exact jobBlankCheck_logLaw (logLaw_of_frame h) _ _
  · exact scanBlank_logLaw (logLaw_of_frame h) _

theorem readPageCompletes_logLaw {s : State} (h : s.logLaw) : (readPageCompletes s).logLaw := by
  unfold readPageCompletes
  split
  · exact evaluateHeldRead_logLaw (readPageDelivered_logLaw h _) _
  · exact h

theorem blankCheckCompletes_logLaw {s : State} (h : s.logLaw) : (blankCheckCompletes s).logLaw := by
  unfold blankCheckCompletes
  split
  · exact evaluateHeldRead_logLaw (blankCheckDelivered_logLaw h _) _
  · exact h

/-! ### Request frames -/

theorem answerStatus_logLaw {s : State} (h : s.logLaw) (st : Status) (tag : Byte) : (answerStatus s st tag).logLaw :=
  logLaw_of_frame h

/-- ACK_FAULT removes the oldest entry, clears the dropped count, or leaves the log (R155). -/
theorem runAckFault_logLaw {s : State} (h : s.logLaw) (tag : Byte) (seq : BitVec 16) (clear : Byte) :
    (runAckFault s tag seq clear).logLaw := by
  unfold runAckFault
  split
  · exact answerStatus_logLaw h _ tag
  · split
    · exact answerStatus_logLaw (logLaw_iff.2 (lawful_clear h clear)) _ tag
    · next e rest he =>
      split
      · exact answerStatus_logLaw (logLaw_iff.2 (lawful_removeOldest (lawful_clear h clear) he)) _ tag
      · exact answerStatus_logLaw h _ tag

theorem runDiscardPage_logLaw {s : State} (h : s.logLaw) (tag : Byte) (page : BitVec 16) : (runDiscardPage s tag page).logLaw := by
  unfold runDiscardPage
  repeat' split
  · exact answerStatus_logLaw h _ tag
  · exact answerStatus_logLaw h _ tag
  · exact answerStatus_logLaw h _ tag
  · exact answerStatus_logLaw (chooseJob_logLaw (discardLines_logLaw h _)) _ tag

/-- ACK_FAULT and DISCARD_PAGE are the commands that may change the log. -/
theorem runCommand_logLaw {s : State} (h : s.logLaw) (cmd tag : Byte) (args : List Byte) : (runCommand s cmd tag args).logLaw := by
  unfold runCommand
  split
  · repeat' split
    all_goals exact logLaw_of_frame h
  · repeat' split
    all_goals exact logLaw_of_frame h
  · split
    · exact logLaw_of_frame h
    · split
      · exact logLaw_of_frame h
      · split
        · exact runDiscardPage_logLaw h _ _
        · exact answerStatus_logLaw h _ _
  · split
    · exact runAckFault_logLaw h _ _ _
    · exact answerStatus_logLaw h _ _
  · split <;> exact logLaw_of_frame h
  · exact answerStatus_logLaw h _ _

theorem executeFrame_logLaw {s : State} (h : s.logLaw) (f : Frame) : (executeFrame s f).logLaw := by
  unfold executeFrame
  repeat' split
  · exact answerStatus_logLaw h _ _
  · exact answerStatus_logLaw h _ _
  · exact answerStatus_logLaw h _ _
  · exact runCommand_logLaw h _ _ _
  · exact answerStatus_logLaw h _ _

/-! ### The link -/

theorem completeFrame_logLaw {s : State} (h : s.logLaw) (f : Frame) : (completeFrame s f).logLaw := by
  unfold completeFrame
  split
  · exact executeFrame_logLaw (logLaw_of_frame h) f
  · exact logLaw_of_frame h
  · exact logLaw_of_frame h

theorem joinFrame_logLaw {s : State} (h : s.logLaw) (byte : Byte) : (joinFrame s byte).logLaw := by
  unfold joinFrame keepBytes
  split
  · split
    · exact completeFrame_logLaw (logLaw_of_frame h) _
    · exact logLaw_of_frame h
  · exact logLaw_of_frame h
  · exact h

theorem receiveByte_logLaw {s : State} (h : s.logLaw) (byte : Byte) : (receiveByte s byte).logLaw := by
  unfold receiveByte
  split
  · exact joinFrame_logLaw (logLaw_of_frame h) byte
  · exact h

theorem receiveBytes_logLaw {s : State} (h : s.logLaw) (bytes : List Byte) : (receiveBytes s bytes).logLaw := by
  induction bytes generalizing s with
  | nil => exact h
  | cons b bytes ih => exact ih (receiveByte_logLaw h b)

theorem responseEnds_logLaw {s : State} (h : s.logLaw) : (responseEnds s).logLaw := by
  unfold responseEnds linkMovesOn
  split
  · exact logLaw_of_frame h
  · dsimp only
    split
    · exact executeFrame_logLaw (logLaw_of_frame h) _
    · exact logLaw_of_frame h
  · exact logLaw_of_frame h

theorem byteComes_logLaw {s : State} (h : s.logLaw) (byte : Byte) : (byteComes s byte).logLaw := by
  unfold byteComes
  repeat' split
  · exact logLaw_of_frame h
  · exact receiveByte_logLaw h byte
  · exact receiveByte_logLaw h byte

theorem responseSentComes_logLaw {s : State} (h : s.logLaw) : (responseSentComes s).logLaw := by
  unfold responseSentComes
  repeat' split
  · exact logLaw_of_frame h
  · exact responseEnds_logLaw h
  · exact responseEnds_logLaw h

theorem breakFound_logLaw {s : State} (h : s.logLaw) : (breakFound s).logLaw := logLaw_of_frame h

theorem breakComes_logLaw {s : State} (h : s.logLaw) : (breakComes s).logLaw := by
  unfold breakComes breakWithRequest
  repeat' split
  · exact executeFrame_logLaw (breakFound_logLaw (logLaw_of_frame h)) _
  · exact breakFound_logLaw (executeFrame_logLaw (logLaw_of_frame h) _)
  · exact breakFound_logLaw h

/-! ### The commands -/

theorem resetPinFalls_logLaw {s : State} (h : s.logLaw) (left : PulseResidue) : (resetPinFalls s left).logLaw := by
  unfold resetPinFalls
  split
  · exact h
  · exact partReset_logLaw _ _ _

theorem takeDueReset_logLaw {s : State} (h : s.logLaw) (left : PulseResidue) : (takeDueReset s left).logLaw := by
  unfold takeDueReset
  split
  · exact partReset_logLaw _ _ _
  · exact h

/-- A command that asks for a job starts it, and makes no entry (R46, R108, R112). -/
theorem chooseIf_logLaw {s : State} (h : s.logLaw) (test : Choice → Bool) : (chooseIf s test).logLaw := by
  unfold chooseIf
  repeat' split
  all_goals exact logLaw_of_frame h

theorem replayDue_logLaw {s : State} (h : s.logLaw) : (replayDue s).logLaw := by
  unfold replayDue
  repeat' split
  all_goals exact logLaw_of_frame h

theorem ageTimerExpires_logLaw {s : State} (h : s.logLaw) : (ageTimerExpires s).logLaw := by
  unfold ageTimerExpires
  split <;> exact logLaw_of_frame h

/-- Every command keeps the law: the resets empty the log, the port, the scan and the jobs append entries, ACK_FAULT removes one, and the
others leave the log. -/
theorem exec_logLaw {c : Instr} {s t : State} (h : s.logLaw) (he : exec c s = .next t) : t.logLaw := by
  cases c <;> obtain rfl := Host.Outcome.next.inj he
  case powerOn => exact partReset_logLaw _ _ _
  case resetPin => exact resetPinFalls_logLaw h _
  case linkCommandReset => exact takeDueReset_logLaw h _
  case resetRelease => exact releaseReset_logLaw h
  case pwarnAsserted => exact pwarnRises_logLaw h
  case pwarnDeasserted => exact pwarnFalls_logLaw h
  case portTransaction => exact takeNextTransaction_logLaw (logLaw_of_frame h)
  case holdTimerExpiry => exact holdExpires_logLaw h
  case startHoldResume => exact chooseJob_logLaw (startHoldResume_logLaw h)
  case heldWriteRetaken => exact chooseJob_logLaw (retakeHeldWrite_logLaw h)
  case ageTimerExpiry => exact ageTimerExpires_logLaw h
  case readPageComplete => exact readPageCompletes_logLaw h
  case blankCheckComplete => exact blankCheckCompletes_logLaw h
  case commit | restore | closeJob => exact chooseIf_logLaw h _
  case replay => exact replayDue_logLaw h
  case endOfStartup =>
    split
    · exact endStartup_logLaw h
    · exact h
  case byteReceived => exact byteComes_logLaw h _
  case responseSent => exact responseSentComes_logLaw h
  case breakRecognised => exact breakComes_logLaw h
  case lengthFaultFrame | badCommand | ident | status | getRegion | setRegion | getSettings | setSetting | flush | readFault
    | ackFault | retryPage | discardPage | restoreSector | dropJournal | resetPart => exact receiveBytes_logLaw h _
  all_goals exact logLaw_of_frame h

/-- Settles O54: the idle step takes a transaction, which may be refused with an entry; a command keeps the law. -/
theorem stepKeepsTheLogLaw : Obligations.StepKeepsTheLogLaw := by
  intro s t h hstep
  obtain ⟨-, rfl⟩ | ⟨c, rest, -, he⟩ := step_cases hstep
  · exact takeNextTransaction_logLaw h
  · exact exec_logLaw (s := { s with pending := rest }) (logLaw_of_frame h) he

end Sys2Proof.Machine
end

section
/-! PROOF. What the execution of a request brings about: its effect on the blocks other than the link, which does not look at the link, and a
reply, which the link sends, defers or, in SYNC_WAIT, loses (R165, R167, R169). -/

namespace Sys2Proof.Machine

set_option Elab.async false

/-- What the command unit makes of a request: a response, or one that waits for the flush condition (R167, R169). -/
inductive Reply where
  | sends (r : Response)
  | defers (tag : Byte)

/-- The reply is RESET_PART's, which the reset follows (R183). -/
def Reply.resets : Reply → Bool
  | .sends r => r.resets
  | .defers _ => false

/-- A reply on the link as it stands: sent or deferred; in SYNC_WAIT neither, and RESET_PART's reset is due (R165, log 14). -/
def deliver (s : State) : Reply → State
  | .sends r =>
    if s.link.state = .syncWait ∧ r.resets = true then { s with unit := { s.unit with resetDue := true } } else respond s r
  | .defers tag => deferResponse s tag

/-- Whatever the link, the command unit and the counter hold, a run from there has one effect on the other blocks and makes one
reply. -/
def Replies (run : Link → CommandUnit → Nat → State) : Prop :=
  ∃ (u : State) (reply : Reply), ∀ l un k, run l un k = deliver (u.withLink l un k) reply

section
variable (s : State) (l : Link) (un : CommandUnit) (k : Nat)

@[simp] theorem withLink_link : (s.withLink l un k).link = l := rfl
@[simp] theorem withLink_unit : (s.withLink l un k).unit = un := rfl
@[simp] theorem withLink_frontEnd : (s.withLink l un k).frontEnd = s.frontEnd := rfl
@[simp] theorem withLink_settings : (s.withLink l un k).settings = s.settings := rfl
@[simp] theorem withLink_log : (s.withLink l un k).log = s.log := rfl
@[simp] theorem withLink_quarantine : (s.withLink l un k).quarantine = s.quarantine := rfl
@[simp] theorem isBlocked_withLink (p : PageNo) : isBlocked (s.withLink l un k) p = isBlocked s p := rfl
@[simp] theorem isNamed_withLink (sec : SectorNo) : isNamed (s.withLink l un k) sec = isNamed s sec := rfl

end

/-! ### The replies of the commands -/

theorem deliver_response (s : State) {r : Response} (h : r.resets = false) : deliver s (.sends r) = respond s r := by
  simp [deliver, h]

/-- A status answered after an effect. -/
theorem replies_status (u : State) (st : Status) (tag : Byte) :
    Replies fun l un k => answerStatus (u.withLink l un k) st tag :=
  ⟨u, .sends (plainResponse st tag), fun _ _ _ => (deliver_response _ rfl).symm⟩

/-- Data answered that do not depend on the link. -/
theorem replies_data (u : State) (tag : Byte) (data : List Byte) :
    Replies fun l un k => respond (u.withLink l un k) (dataResponse tag data) :=
  ⟨u, .sends (dataResponse tag data), fun _ _ _ => (deliver_response _ rfl).symm⟩

section
variable (s : State) (tag : Byte)

theorem replies_runGetRegion (n : Byte) : Replies fun l un k => runGetRegion (s.withLink l un k) tag n := by
  unfold runGetRegion
  by_cases hn : n.toNat < 8
  · simp only [dif_pos hn]
    exact replies_data s tag (regionRecord s.regions[n.toNat])
  · simp only [dif_neg hn]
    exact replies_status s .range tag

theorem replies_runSetRegion (n valid : Byte) (base limit : BitVec 16) (kind delay : Byte) :
    Replies fun l un k => runSetRegion (s.withLink l un k) tag n valid base limit kind delay := by
  unfold runSetRegion
  by_cases hn : n.toNat < 8
  · simp only [dif_pos hn]
    cases regionOfRecord valid base limit kind delay with
    | none => exact replies_status s .range tag
    | some r => exact replies_status { s with regions := s.regions.set n.toNat r } .ok tag
  · simp only [dif_neg hn]
    exact replies_status s .range tag

theorem replies_runSetSetting (field value : Byte) :
    Replies fun l un k => runSetSetting (s.withLink l un k) tag field value := by
  simp only [runSetSetting, withLink_settings]
  cases withSetting s.settings field value with
  | none => exact replies_status s .range tag
  | some c => exact replies_status { s with settings := c } .ok tag

theorem replies_runFlush (wait : Byte) : Replies fun l un k => runFlush (s.withLink l un k) tag wait := by
  simp only [runFlush, withLink_frontEnd, sealAll_withLink, chooseJob_withLink]
  split_ifs
  · exact replies_status s .range tag
  · exact replies_status s .state tag
  · exact replies_status (chooseJob (sealAll s)) .ok tag
  · exact ⟨chooseJob (sealAll s), .defers tag, fun _ _ _ => rfl⟩

theorem replies_runReadFault : Replies fun l un k => runReadFault (s.withLink l un k) tag := by
  simp only [runReadFault, withLink_log]
  cases s.log.entries with
  | nil => exact replies_status s .empty tag
  | cons e rest => exact replies_data s tag (faultRecord e)

theorem replies_runAckFault (seq : BitVec 16) (clear : Byte) :
    Replies fun l un k => runAckFault (s.withLink l un k) tag seq clear := by
  simp only [runAckFault, withLink_log]
  split_ifs
  · exact replies_status s .range tag
  · cases s.log.entries with
    | nil => exact replies_status { s with log := { s.log with entries := [], dropped := droppedAfter clear s.log } } .state tag
    | cons e rest =>
      dsimp only
      split_ifs
      · exact replies_status
          { s with log := { s.log with entries := rest, dropped := droppedAfter clear s.log } } .ok tag
      · exact replies_status s .stale tag

theorem replies_runRetryPage (page : BitVec 16) : Replies fun l un k => runRetryPage (s.withLink l un k) tag page := by
  unfold runRetryPage
  cases pageOfWord page with
  | none => exact replies_status s .range tag
  | some p =>
    simp only [withLink_frontEnd, isBlocked_withLink, isNamed_withLink, retryLines_withLink, chooseJob_withLink]
    split_ifs
    · exact replies_status s .state tag
    · exact replies_status s .state tag
    · exact replies_status (chooseJob (retryLines s p)) .ok tag

theorem replies_runDiscardPage (page : BitVec 16) : Replies fun l un k => runDiscardPage (s.withLink l un k) tag page := by
  unfold runDiscardPage
  cases pageOfWord page with
  | none => exact replies_status s .range tag
  | some p =>
    simp only [withLink_frontEnd, isBlocked_withLink, discardLines_withLink, chooseJob_withLink]
    split_ifs
    · exact replies_status s .state tag
    · exact replies_status s .state tag
    · exact replies_status (chooseJob (discardLines s p)) .ok tag

theorem replies_runRecovery (bank : Byte) (p : PendingJob) :
    Replies fun l un k => runRecovery (s.withLink l un k) tag bank p := by
  unfold runRecovery
  cases bankOfCode bank with
  | none => exact replies_status s .range tag
  | some b =>
    simp only [withLink_frontEnd, withLink_quarantine, setPending_withLink]
    split_ifs
    · exact replies_status s .state tag
    · exact replies_status s .state tag
    · exact replies_status s .busy tag
    · exact replies_status (setPending s b p) .ok tag

/-- RESET_PART's reply is the one that `deliver` takes for the reset in SYNC_WAIT (R165, R183). -/
theorem replies_runResetPart : Replies fun l un k => runResetPart (s.withLink l un k) tag := by
  by_cases hstarting : s.frontEnd = .starting
  · simp only [runResetPart, withLink_frontEnd, hstarting, if_true]
    exact replies_status s .state tag
  · refine ⟨s, .sends { status := .ok, tag := tag, data := [], resets := true }, fun l un k => ?_⟩
    simp only [runResetPart, withLink_frontEnd, hstarting, if_false, deliver, and_true]

theorem replies_runCommand (cmd : Byte) (args : List Byte) :
    Replies fun l un k => runCommand (s.withLink l un k) cmd tag args := by
  unfold runCommand
  split
  · split_ifs
    · exact replies_data s tag identityBlock
    · exact replies_data s tag (statusBlock s)
    · exact replies_data s tag (settingsBlock s.settings)
    · exact replies_runReadFault s tag
    · exact replies_runResetPart s tag
    · exact replies_status s .badLength tag
  · split_ifs
    · exact replies_runGetRegion s tag _
    · exact replies_runFlush s tag _
    · exact replies_runRecovery s tag _ .restore
    · exact replies_runRecovery s tag _ .close
    · exact replies_status s .badLength tag
  · split_ifs
    · exact replies_runSetSetting s tag _ _
    · exact replies_runRetryPage s tag _
    · exact replies_runDiscardPage s tag _
    · exact replies_status s .badLength tag
  · split_ifs
    · exact replies_runAckFault s tag _ _
    · exact replies_status s .badLength tag
  · split_ifs
    · exact replies_runSetRegion s tag _ _ _ _ _ _
    · exact replies_status s .badLength tag
  · exact replies_status s .badLength tag

end

/-- The execution of a request is an effect that does not look at the link, and the delivery of one reply. -/
theorem executeFrame_replies (s : State) (f : Frame) : Replies fun l un k => executeFrame (s.withLink l un k) f := by
  cases f with
  | lengthFault cmd tag len => exact replies_status s .badLength tag
  | whole cmd tag len args check =>
    unfold executeFrame
    dsimp only
    split_ifs
    · exact replies_status s .badCheck tag
    · cases requestLength cmd with
      | none => exact replies_status s .badCommand tag
      | some n =>
        dsimp only
        split_ifs
        · exact replies_runCommand s tag cmd args
        · exact replies_status s .badLength tag

/-! ### The delivery of a reply -/

/-- In SYNC_WAIT nothing is sent and nothing deferred, and RESET_PART's reset is due (R165, log 14). -/
theorem deliver_of_syncWait {s : State} (h : s.link.state = .syncWait) (reply : Reply) :
    deliver s reply = { s with unit := { s.unit with resetDue := s.unit.resetDue || reply.resets } } := by
  cases reply with
  | sends r => cases hr : r.resets <;> simp [deliver, Reply.resets, respond, h, hr]
  | defers tag => simp [deliver, Reply.resets, deferResponse, h]

/-- Outside SYNC_WAIT a reply is a response that begins or stands behind the sync answer, or a deferral (R162, R167, R169). -/
theorem deliver_of_not_syncWait {s : State} (h : s.link.state ≠ .syncWait) (hd : s.unit.deferred = none) (reply : Reply) :
    (∃ r : Response, r.resets = reply.resets ∧ deliver s reply = respond s r) ∨
      reply.resets = false ∧ ∃ tag, deliver s reply = { s with unit := { s.unit with deferred := some tag } } := by
  cases reply with
  | sends r => exact Or.inl ⟨r, rfl, by simp [deliver, h]⟩
  | defers tag =>
    by_cases hc : flushCondition s = true
    · refine Or.inl ⟨dataResponse tag [BitVec.ofNat 8 (linesIn s .failed)], rfl, ?_⟩
      simp only [deliver, deferResponse, if_neg h, flushTest]
      rw [if_pos (by exact hc), ← hd]
      rfl
    · refine Or.inr ⟨rfl, tag, ?_⟩
      simp only [deliver, deferResponse, if_neg h, flushTest]
      rw [if_neg (by exact hc)]

end Sys2Proof.Machine
end

section
/-! PROOF. Every step keeps the law of the link: with no request held the law speaks of the link and the command unit alone; the events of the
link keep it one by one, and the rest of the block meets it only in the test for a deferred FLUSH (R161, R165, R166, R169). -/

namespace Sys2Proof.Machine

set_option Elab.async false

/-! ### The law with no request held -/

/-- The law of the link while the command unit holds no request. -/
structure Link.settled (l : Link) (un : CommandUnit) : Prop where
  syncWait_iff : l.state = .syncWait ↔ l.bitTime = none
  of_frame : l.frame.isSome = true → l.quietWait = false ∧ (l.state = .receiving ∨ l.state = .busy)
  of_buffered : l.buffered.isSome = true → l.state = .busy
  of_sending : l.transmitter.quiet = false → l.state = .busy
  of_deferred : un.deferred.isSome = true → l.state = .busy ∧ l.transmitter.quiet = true
  of_receiving : l.state = .receiving → l.frame.isSome = true
  of_busy : l.state = .busy → l.transmitter.quiet = false ∨ un.deferred.isSome = true ∨ un.resetDue = true
  of_completing : l.completing.isSome = true → l.state = .syncWait ∨ l.transmitter.answersSync = true
  no_request : un.request = none

/-- The link is BUSY for a request that has been handed over: nothing is being sent but the sync answer, and nothing is deferred. -/
structure Link.executes (l : Link) (un : CommandUnit) : Prop where
  busy : l.state = .busy
  timed : l.bitTime ≠ none
  of_frame : l.frame.isSome = true → l.quietWait = false
  quiet : l.transmitter.quiet = true
  of_completing : l.completing.isSome = true → l.transmitter.answersSync = true
  no_deferral : un.deferred = none
  no_request : un.request = none

/-- The law of the link, no request held. -/
def State.linkSettled (s : State) : Prop := s.link.settled s.unit

theorem State.linkSettled.linkLaw {s : State} (h : s.linkSettled) : s.linkLaw :=
  ⟨h.syncWait_iff, h.of_frame, h.of_buffered, h.of_sending, h.of_deferred, h.of_receiving,
    fun hb => (h.of_busy hb).imp_right fun hd => hd.imp_right Or.inl, fun hr => by simp [h.no_request] at hr, h.of_completing⟩

theorem State.linkLaw.linkSettled {s : State} (h : s.linkLaw) (hr : s.unit.request = none) : s.linkSettled := by
  obtain ⟨hsync, hframe, hbuf, hsend, hdef, hrec, hbusy, -, hcomp⟩ := h
  exact ⟨hsync, hframe, hbuf, hsend, hdef, hrec, by simpa [hr] using hbusy, hcomp, hr⟩

/-- What the law says of a request that the command unit holds: a break is next, and the link executes it. -/
theorem State.linkLaw.of_request {s : State} (h : s.linkLaw) {f : Frame} (hr : s.unit.request = some f) :
    s.pending.head? = some .breakRecognised ∧ s.link.executes { s.unit with request := none } := by
  obtain ⟨hsync, hframe, -, -, -, -, -, hreq, hcomp⟩ := h
  obtain ⟨hbusy, hquiet, hdef, hnext⟩ := hreq (by simp [hr])
  refine ⟨hnext, hbusy, fun hnone => ?_, fun hf => (hframe hf).1, hquiet, fun hc => ?_, hdef, rfl⟩
  · simp [hbusy] at hsync
    exact hsync hnone
  · simpa [hbusy] using hcomp hc

/-- A request is held, a break being next (log 11). -/
theorem linkLaw_of_held {s : State} {f : Frame} (h : s.link.executes { s.unit with request := none })
    (hr : s.unit.request = some f) (hnext : s.pending.head? = some .breakRecognised) : s.linkLaw := by
  have hdef : s.unit.deferred = none := h.no_deferral
  refine ⟨by simp [h.busy, h.timed], fun hf => ⟨h.of_frame hf, Or.inr h.busy⟩, fun _ => h.busy, fun _ => h.busy, ?_, ?_, ?_, ?_,
    fun hc => Or.inr (h.of_completing hc)⟩
  · simp [hdef]
  · simp [h.busy]
  · simp [hr]
  · exact fun _ => ⟨h.busy, h.quiet, hdef, hnext⟩

/-- A BUSY link, with what it waits for. -/
theorem settled_of_busy {l : Link} {un : CommandUnit} (hbusy : l.state = .busy) (htimed : l.bitTime ≠ none)
    (hframe : l.frame.isSome = true → l.quietWait = false)
    (hdeferred : un.deferred.isSome = true → l.transmitter.quiet = true)
    (hwaits : l.transmitter.quiet = false ∨ un.deferred.isSome = true ∨ un.resetDue = true)
    (hcompleting : l.completing.isSome = true → l.transmitter.answersSync = true) (hrequest : un.request = none) :
    l.settled un where
  syncWait_iff := by simp [hbusy, htimed]
  of_frame hf := ⟨hframe hf, Or.inr hbusy⟩
  of_buffered _ := hbusy
  of_sending _ := hbusy
  of_deferred hd := ⟨hbusy, hdeferred hd⟩
  of_receiving hr := by simp [hbusy] at hr
  of_busy _ := hwaits
  of_completing hc := Or.inr (hcompleting hc)
  no_request := hrequest

/-- What leaves link and command unit keeps the law. -/
theorem settled_of_frame {s t : State} (h : s.linkSettled) (hl : t.link = s.link := by simp) (hu : t.unit = s.unit := by simp) :
    t.linkSettled := by
  unfold State.linkSettled
  rw [hl, hu]
  exact h

theorem partReset_settled (s : State) (cause : ResetCause) (left : PulseResidue) : (partReset s cause left).linkSettled :=
  reset_linkLaw.linkSettled rfl

/-! ### Sending, deferring, executing -/

/-- The response of the request in hand, or of a FLUSH, is built: it begins, or stands behind the sync answer (R162, R167). -/
theorem respond_settled {s : State} (h : s.link.executes s.unit) (r : Response) : (respond s r).linkSettled := by
  have hquiet := h.quiet
  cases htr : s.link.transmitter with
  | resting =>
    have hcompleting : s.link.completing.isSome = false := by
      simpa [htr, Transmitter.answersSync] using h.of_completing
    have hbegins : respond s r = beginResponse s r := by simp [respond, h.busy, htr]
    rw [hbegins]
    exact settled_of_busy h.busy h.timed h.of_frame (by simp [h.no_deferral]) (Or.inl rfl) (by simp [hcompleting]) h.no_request
  | syncAnswer behind =>
    rw [respond_behind h.busy htr]
    exact settled_of_busy h.busy h.timed h.of_frame (by simp [h.no_deferral]) (Or.inl rfl) (fun _ => rfl) h.no_request
  | response bytes resets => simp [htr, Transmitter.quiet] at hquiet

/-- A link that waits for the flush condition may send the deferred response (R169, R177). -/
theorem flushTest_settled {s : State} (h : s.linkSettled) : (flushTest s).linkSettled := by
  unfold flushTest
  split
  · next tag hd =>
    have hdeferred : s.unit.deferred.isSome = true := by simp [hd]
    obtain ⟨hbusy, hquiet⟩ := h.of_deferred hdeferred
    split
    · refine respond_settled ?_ _
      exact {
        busy := hbusy
        timed := fun hnone => by simp [h.syncWait_iff.2 hnone] at hbusy
        of_frame := fun hf => (h.of_frame hf).1
        quiet := hquiet
        of_completing := fun hc => by simpa [hbusy] using h.of_completing hc
        no_deferral := rfl
        no_request := h.no_request }
    · exact h
  · exact h

/-- The reply to a request in hand is sent or deferred, and the link is BUSY with it (R161, R167, R169). -/
theorem deliver_settled {s : State} (h : s.link.executes s.unit) (reply : Reply) : (deliver s reply).linkSettled := by
  obtain ⟨r, -, he⟩ | ⟨-, tag, he⟩ := deliver_of_not_syncWait (by simp [h.busy]) h.no_deferral reply
  · rw [he]
    exact respond_settled h r
  · rw [he]
    exact settled_of_busy h.busy h.timed h.of_frame (fun _ => h.quiet) (Or.inr (Or.inl rfl)) h.of_completing h.no_request

theorem executeFrame_settled {s : State} (h : s.link.executes s.unit) (f : Frame) : (executeFrame s f).linkSettled := by
  obtain ⟨u, reply, he⟩ := executeFrame_replies s f
  have hs : executeFrame s f = deliver (u.withLink s.link s.unit s.freeIndex) reply := he s.link s.unit s.freeIndex
  rw [hs]
  exact deliver_settled (by exact h) reply

/-! ### Receiving -/

section
variable {s : State} (h : s.linkSettled)
include h

/-- The frame in progress is gone, whatever the quiet wait and FRAMING become (R161, R163, R164). -/
theorem settled_without_frame (quiet framing : Bool) :
    Link.settled { s.link with
      frame := none, state := if s.link.state = .receiving then .idle else s.link.state, quietWait := quiet,
      framingFlag := framing } s.unit := by
  by_cases hrec : s.link.state = .receiving
  · have hnotBusy : s.link.state ≠ .busy := by simp [hrec]
    rw [if_pos hrec]
    exact {
      syncWait_iff := by simpa [hrec] using h.syncWait_iff
      of_frame := by simp
      of_buffered := fun hb => absurd (h.of_buffered hb) hnotBusy
      of_sending := fun hs => absurd (h.of_sending hs) hnotBusy
      of_deferred := fun hd => absurd (h.of_deferred hd).1 hnotBusy
      of_receiving := by simp
      of_busy := by simp
      of_completing := fun hc => by simpa [hrec] using h.of_completing hc
      no_request := h.no_request }
  · rw [if_neg hrec]
    exact { h with
      of_frame := by simp
      of_receiving := fun hr => absurd hr hrec }

theorem dropFrame_settled : (dropFrame s).linkSettled := settled_without_frame h s.link.quietWait s.link.framingFlag

theorem dropFrame_quietOn_settled : (dropFrame (quietOn s)).linkSettled := settled_without_frame h true s.link.framingFlag

theorem gapFound_settled : (gapFound s).linkSettled := by
  unfold gapFound
  split
  · exact dropFrame_settled h
  · exact h

theorem framingErrorFound_settled : (framingErrorFound s).linkSettled := by
  unfold framingErrorFound
  split
  · exact settled_without_frame h true true
  · exact h

theorem quietEnds_settled : (quietEnds s).linkSettled := { h with of_frame := fun hf => ⟨rfl, (h.of_frame hf).2⟩ }

/-- A frame goes on: one more byte is kept or counted (R163, R166). -/
theorem settled_with_frame (hf : s.link.frame.isSome = true) (frame : FrameInProgress) :
    ({ s with link := { s.link with frame := some frame } } : State).linkSettled :=
  { h with
    of_frame := fun _ => h.of_frame hf
    of_receiving := fun _ => rfl }

theorem countBytes_settled (hf : s.link.frame.isSome = true) (n : Nat) (len : Option Byte) :
    (countBytes s n len).linkSettled := by
  unfold countBytes
  repeat' split
  · exact dropFrame_quietOn_settled h
  · exact dropFrame_settled h
  · exact settled_with_frame h hf _
  · exact settled_with_frame h hf _

theorem beginFrame_settled (hr : receives s = true) (hf : s.link.frame = none) : (beginFrame s).linkSettled := by
  obtain ⟨⟨hsync, -⟩, hquiet⟩ : (s.link.state ≠ .syncWait ∧ s.frontEnd ≠ .inReset) ∧ s.link.quietWait = false := by
    simpa [receives] using hr
  have hrec : s.link.state ≠ .receiving := fun hrec => by simpa [hf] using h.of_receiving hrec
  unfold beginFrame
  split
  · next hb =>
    exact { h with
      of_frame := fun _ => ⟨hquiet, Or.inr (h.of_buffered hb)⟩
      of_receiving := fun _ => rfl }
  · by_cases hidle : s.link.state = .idle
    · have hnotBusy : s.link.state ≠ .busy := by simp [hidle]
      rw [if_pos hidle]
      exact {
        syncWait_iff := by simpa [hidle] using h.syncWait_iff
        of_frame := fun _ => ⟨hquiet, Or.inl rfl⟩
        of_buffered := fun hb => absurd (h.of_buffered hb) hnotBusy
        of_sending := fun hs => absurd (h.of_sending hs) hnotBusy
        of_deferred := fun hd => absurd (h.of_deferred hd).1 hnotBusy
        of_receiving := fun _ => rfl
        of_busy := by simp
        of_completing := fun hc => by simpa [hidle] using h.of_completing hc
        no_request := h.no_request }
    · have hbusy : s.link.state = .busy := by
        cases hst : s.link.state with
        | syncWait => exact absurd hst hsync
        | idle => exact absurd hst hidle
        | receiving => exact absurd hst hrec
        | busy => rfl
      rw [if_neg hidle]
      exact { h with
        of_frame := fun _ => ⟨hquiet, Or.inr hbusy⟩
        of_receiving := fun _ => rfl }

theorem startBit_settled : (startBit s).linkSettled := by
  unfold startBit
  split
  · next hc =>
    obtain ⟨hr, hf⟩ : receives s = true ∧ s.link.frame = none := by simpa using hc
    exact beginFrame_settled h hr hf
  · exact h

/-- A RECEIVING link whose frame is complete becomes BUSY to execute it (R163). -/
theorem executes_of_receiving (hrec : s.link.state = .receiving) (quiet : Bool) :
    Link.executes { s.link with frame := none, state := .busy, quietWait := quiet } s.unit where
  busy := rfl
  timed hnone := by simp [h.syncWait_iff.2 hnone] at hrec
  of_frame := by simp
  quiet := by
    have hsending := h.of_sending
    simpa [hrec] using hsending
  of_completing hc := by simpa [hrec] using h.of_completing hc
  no_deferral := by
    have hdeferred := h.of_deferred
    simpa [hrec] using hdeferred
  no_request := h.no_request

end

/-- The quiet wait is all that a complete frame may change before it is handed on (R163). -/
theorem quietAfter_eq (s : State) (f : Frame) :
    ∃ quiet, quietAfter s f = { s with link := { s.link with quietWait := quiet } } := by
  cases f with
  | whole cmd tag len args check => exact ⟨s.link.quietWait, rfl⟩
  | lengthFault cmd tag len => exact ⟨true, rfl⟩

theorem completeFrame_settled {s : State} (h : s.linkSettled) (f : Frame) :
    (completeFrame (quietAfter s f) f).linkSettled := by
  obtain ⟨quiet, hq⟩ := quietAfter_eq s f
  rw [hq]
  unfold completeFrame
  split
  · next hrec => exact executeFrame_settled (executes_of_receiving h hrec quiet) f
  · next hbusy =>
    have hnotReceiving : s.link.state ≠ .receiving := by simp [show s.link.state = .busy from hbusy]
    exact { h with
      of_frame := by simp
      of_buffered := fun _ => hbusy
      of_receiving := fun hr => absurd hr hnotReceiving }
  · next hrec _ =>
    exact { h with
      of_frame := by simp
      of_receiving := fun hr => absurd hr hrec }

theorem joinFrame_settled {s : State} (h : s.linkSettled) (byte : Byte) : (joinFrame s byte).linkSettled := by
  unfold joinFrame keepBytes
  split
  · next hf =>
    split
    · exact completeFrame_settled h _
    · exact settled_with_frame h (by simp [hf]) _
  · next hf => exact countBytes_settled h (by simp [hf]) _ _
  · exact h

theorem receiveByte_settled {s : State} (h : s.linkSettled) (byte : Byte) : (receiveByte s byte).linkSettled := by
  unfold receiveByte
  split
  · exact joinFrame_settled (startBit_settled h) byte
  · exact h

theorem receiveBytes_settled {s : State} (h : s.linkSettled) (bytes : List Byte) : (receiveBytes s bytes).linkSettled := by
  induction bytes generalizing s with
  | nil => exact h
  | cons b bytes ih => exact ih (receiveByte_settled h b)

/-! ### Rate sync, responses and breaks -/

theorem beginCandidate_settled {s : State} (h : s.linkSettled) : (beginCandidate s).linkSettled := by
  unfold beginCandidate
  split
  · exact { h with }
  · exact h

theorem abandonCandidate_settled {s : State} (h : s.linkSettled) : (abandonCandidate s).linkSettled := by
  unfold abandonCandidate
  split
  · exact { h with }
  · exact h

/-- An accepted sync byte finds the link in SYNC_WAIT, where nothing of BUSY stands (R161, R162). -/
theorem judgeCandidate_settled {s : State} (h : s.linkSettled) (m : Nat) (byte : Byte) (stop : Bool) :
    (judgeCandidate s m byte stop).linkSettled := by
  unfold judgeCandidate
  split
  · next hc =>
    obtain ⟨⟨hsync, -⟩, -⟩ : (s.link.state = .syncWait ∧ s.frontEnd ≠ .inReset) ∧ acceptsCandidate m byte stop = true := by
      simpa [seeksSync] using hc
    have hnotBusy : s.link.state ≠ .busy := by simp [hsync]
    exact {
      syncWait_iff := by simp
      of_frame := fun hf => by simpa [hsync] using (h.of_frame hf).2
      of_buffered := fun hb => absurd (h.of_buffered hb) hnotBusy
      of_sending := by simp [Transmitter.quiet]
      of_deferred := fun hd => absurd (h.of_deferred hd).1 hnotBusy
      of_receiving := by simp
      of_busy := by simp
      of_completing := fun _ => Or.inr rfl
      no_request := h.no_request }
  · exact abandonCandidate_settled h

theorem byteCompleted_settled {s : State} (h : s.linkSettled) : (byteCompleted s).linkSettled :=
  { h with of_completing := by simp }

theorem syncAnswerEnds_settled {s : State} (h : s.linkSettled) : (syncAnswerEnds s).linkSettled := by
  unfold syncAnswerEnds
  split
  · next htr =>
    exact { h with
      of_sending := by simp [Transmitter.quiet]
      of_deferred := fun hd => ⟨(h.of_deferred hd).1, rfl⟩
      of_busy := fun hb => by simpa [htr, Transmitter.quiet] using h.of_busy hb
      of_completing := by simp }
  · next r htr =>
    have hbusy : s.link.state = .busy := h.of_sending (by simp [htr, Transmitter.quiet])
    exact { h with
      of_sending := fun _ => hbusy
      of_deferred := fun hd => by simpa [htr, Transmitter.quiet] using (h.of_deferred hd).2
      of_busy := fun _ => Or.inl rfl
      of_completing := by simp }
  · exact h

/-- The end of a response leaves a BUSY link with nothing to send. -/
theorem executes_of_response {s : State} (h : s.linkSettled) {bytes : List Byte} {resets : Bool}
    (htr : s.link.transmitter = .response bytes resets) :
    Link.executes { s.link with transmitter := .resting, buffered := none, state := .busy } s.unit where
  busy := rfl
  timed hnone := by
    have hbusy := h.of_sending (by simp [htr, Transmitter.quiet])
    simp [h.syncWait_iff.2 hnone] at hbusy
  of_frame hf := (h.of_frame hf).1
  quiet := rfl
  of_completing hc := by
    have hbusy := h.of_sending (by simp [htr, Transmitter.quiet])
    simpa [hbusy, htr, Transmitter.answersSync] using h.of_completing hc
  no_deferral := by
    have hdeferred := h.of_deferred
    simpa [htr, Transmitter.quiet] using hdeferred
  no_request := h.no_request

/-- After a response the buffered frame is executed, or the link is RECEIVING or IDLE by the frame in progress (R161, R166). -/
theorem linkMovesOn_settled {s : State} (h : s.linkSettled) {bytes : List Byte} {resets : Bool}
    (htr : s.link.transmitter = .response bytes resets) :
    (linkMovesOn { s with link := { s.link with transmitter := .resting } }).linkSettled := by
  have he := executes_of_response h htr
  have hcompleting : s.link.completing.isSome = false := by
    simpa [Transmitter.answersSync] using he.of_completing
  have htimed : s.link.bitTime ≠ none := he.timed
  unfold linkMovesOn
  dsimp only
  split
  · exact executeFrame_settled he _
  · next hbuf =>
    cases hframe : s.link.frame with
    | none => exact {
        syncWait_iff := by simp [htimed]
        of_frame := by simp
        of_buffered := by simp [hbuf]
        of_sending := by simp [Transmitter.quiet]
        of_deferred := by simp [he.no_deferral]
        of_receiving := by simp
        of_busy := by simp
        of_completing := by simp [hcompleting]
        no_request := h.no_request }
    | some frame => exact {
        syncWait_iff := by simp [htimed]
        of_frame := fun hf => ⟨he.of_frame (by simp [hframe]), Or.inl rfl⟩
        of_buffered := by simp [hbuf]
        of_sending := by simp [Transmitter.quiet]
        of_deferred := by simp [he.no_deferral]
        of_receiving := fun _ => rfl
        of_busy := by simp
        of_completing := by simp [hcompleting]
        no_request := h.no_request }

theorem responseEnds_settled {s : State} (h : s.linkSettled) : (responseEnds s).linkSettled := by
  unfold responseEnds
  split
  · next bytes htr =>
    have he := executes_of_response h htr
    exact settled_of_busy (h.of_sending (by simp [htr, Transmitter.quiet])) he.timed he.of_frame (fun _ => rfl)
      (Or.inr (Or.inr rfl)) he.of_completing h.no_request
  · next bytes htr => exact linkMovesOn_settled h htr
  · exact byteCompleted_settled h

/-- After a break outside SYNC_WAIT nothing is left that the law binds (R165). -/
theorem breakFound_settled_of_not_syncWait {s : State} (hsync : s.link.state ≠ .syncWait) (hr : s.unit.request = none) :
    (breakFound s).linkSettled := by
  have hquiet : (transmitterAfterBreak s.link).quiet = true := by
    unfold transmitterAfterBreak
    split
    · split <;> rfl
    · rfl
  rw [breakFound, if_neg hsync]
  exact {
    syncWait_iff := by simp
    of_frame := by simp
    of_buffered := by simp
    of_sending := by simp [hquiet]
    of_deferred := by simp
    of_receiving := by simp
    of_busy := by simp
    of_completing := fun _ => Or.inl rfl
    no_request := hr }

theorem breakFound_settled {s : State} (h : s.linkSettled) : (breakFound s).linkSettled := by
  by_cases hsync : s.link.state = .syncWait
  · rw [breakFound, if_pos hsync]
    exact abandonCandidate_settled h
  · exact breakFound_settled_of_not_syncWait hsync h.no_request

/-- A request executed in SYNC_WAIT leaves the link as it is (R165). -/
theorem executeFrame_of_syncWait {s : State} (hsync : s.link.state = .syncWait) (f : Frame) :
    ∃ due, (executeFrame s f).link = s.link ∧ (executeFrame s f).unit = { s.unit with resetDue := due } := by
  obtain ⟨u, reply, he⟩ := executeFrame_replies s f
  have hs : executeFrame s f = deliver (u.withLink s.link s.unit s.freeIndex) reply := he s.link s.unit s.freeIndex
  rw [hs, deliver_of_syncWait (by exact hsync)]
  exact ⟨_, rfl, rfl⟩

theorem executeFrame_settled_of_syncWait {s : State} (h : s.linkSettled) (hsync : s.link.state = .syncWait) (f : Frame) :
    (executeFrame s f).linkSettled := by
  obtain ⟨due, hl, hu⟩ := executeFrame_of_syncWait hsync f
  unfold State.linkSettled
  rw [hl, hu]
  exact { h with of_busy := fun hb => by simp [hsync] at hb }

/-- A break and the request in hand, in either order (R165, log 11). -/
theorem breakWithRequest_settled {s : State} (h : s.link.executes s.unit) (f : Frame) : (breakWithRequest s f).linkSettled := by
  have hsync : s.link.state ≠ .syncWait := by simp [h.busy]
  unfold breakWithRequest
  split
  · have hbroken : (breakFound { s with freeIndex := s.freeIndex + 1 }).linkSettled :=
      breakFound_settled_of_not_syncWait hsync h.no_request
    refine executeFrame_settled_of_syncWait hbroken ?_ f
    rw [breakFound, if_neg hsync]
  · exact breakFound_settled (executeFrame_settled (s := { s with freeIndex := s.freeIndex + 1 }) h f)

theorem breakComes_settled {s : State} (h : s.unit.request = none → s.linkSettled)
    (hr : ∀ f, s.unit.request = some f → s.link.executes { s.unit with request := none }) : (breakComes s).linkSettled := by
  unfold breakComes
  split
  · next f hf => exact breakWithRequest_settled (s := { s with unit := { s.unit with request := none } }) (hr f hf) f
  · next hnone => exact breakFound_settled (h hnone)

/-! ### A request held before a break -/

theorem breakIsNext_iff {s : State} : breakIsNext s = true ↔ s.pending.head? = some .breakRecognised := by simp [breakIsNext]

/-- A request is held with a break next, and executed otherwise. -/
theorem byteComes_linkLaw {s : State} (h : s.linkSettled) (byte : Byte) : (byteComes s byte).linkLaw := by
  unfold byteComes
  split
  · next f hf =>
    split
    · next hnext =>
      have hrec : s.link.state = .receiving := by
        unfold requestOfByte at hf
        split at hf
        · next hc =>
          obtain ⟨-, hrec⟩ : receives s = true ∧ s.link.state = .receiving := by simpa using hc
          exact hrec
        · simp at hf
      obtain ⟨quiet, hq⟩ := quietAfter_eq { s with link := { s.link with frame := none } } f
      rw [hq]
      have he := executes_of_receiving h hrec quiet
      exact linkLaw_of_held (f := f) { he with no_request := rfl } rfl (breakIsNext_iff.1 hnext)
    · exact (receiveByte_settled h byte).linkLaw
  · exact (receiveByte_settled h byte).linkLaw

theorem responseSentComes_linkLaw {s : State} (h : s.linkSettled) : (responseSentComes s).linkLaw := by
  unfold responseSentComes
  split
  · next f hf =>
    split
    · next hnext =>
      unfold requestOfResponse at hf
      split at hf
      · next htr =>
        exact linkLaw_of_held (f := f) { executes_of_response h htr with no_request := rfl } rfl (breakIsNext_iff.1 hnext)
      · simp at hf
    · exact (responseEnds_settled h).linkLaw
  · exact (responseEnds_settled h).linkLaw

end Sys2Proof.Machine
end

section
/-! PROOF. The law of the link at the steps of the sequencer and at a command: the sequencer leaves the link but for the end of a job, whose
test for a deferred FLUSH may send the response (R161, R169). -/

namespace Sys2Proof.Machine

set_option Elab.async false

/-! ### The start-up scan -/

section
variable {s : State} (h : s.linkSettled)
include h

theorem scanFourthStep_settled : (scanFourthStep s).linkSettled := by
  unfold scanFourthStep
  split <;> exact settled_of_frame h

theorem scanThirdStep_settled : (scanThirdStep s).linkSettled := by
  unfold scanThirdStep
  split
  · exact settled_of_frame h
  · exact scanFourthStep_settled h

theorem endReplay_settled : (endReplay s).linkSettled := by
  unfold endReplay
  dsimp only
  split
  · exact scanFourthStep_settled (settled_of_frame h)
  · exact settled_of_frame h

end

theorem classifyAs_settled {s : State} (h : s.linkSettled) (j : Journal) (v : JournalState) : (classifyAs s j v).linkSettled := by
  cases j with
  | j0 => exact settled_of_frame h rfl rfl
  | j1 => exact scanThirdStep_settled (settled_of_frame h)

theorem classifyCorrupt_settled {s : State} (h : s.linkSettled) (j : Journal) (target : BitVec 16) :
    (classifyCorrupt s j target).linkSettled :=
  classifyAs_settled (settled_of_frame h) j _

theorem scanHeader_settled {s : State} (h : s.linkSettled) (j : Journal) (header : Page) : (scanHeader s j header).linkSettled := by
  unfold scanHeader
  repeat' split
  · exact classifyAs_settled h j _
  · exact classifyAs_settled h j _
  · exact classifyCorrupt_settled h j _
  · exact settled_of_frame h rfl rfl

theorem scanCopy_settled {s : State} (h : s.linkSettled) (j : Journal) (target : SectorNo) (check : BitVec 16) (k : Fin 16)
    (sum : BitVec 16) (page : Page) : (scanCopy s j target check k sum page).linkSettled := by
  unfold scanCopy
  repeat' split
  · exact settled_of_frame h rfl rfl
  · exact classifyAs_settled h j _
  · exact classifyCorrupt_settled h j _

theorem scanBlank_settled {s : State} (h : s.linkSettled) (blank : Bool) : (scanBlank s blank).linkSettled := by
  unfold scanBlank
  repeat' split
  · exact classifyAs_settled h _ _
  · exact settled_of_frame h
  · exact h

theorem scanRead_settled {s : State} (h : s.linkSettled) (page : Page) : (scanRead s page).linkSettled := by
  unfold scanRead
  split
  · exact scanHeader_settled h _ _
  · exact scanCopy_settled h _ _ _ _ _ _
  · exact h

/-! ### The ends of jobs -/

/-- The end of a job leaves the link until its test for a deferred FLUSH (R54, R177). -/
theorem endJob_settled {s : State} (h : s.linkSettled) : (endJob s).linkSettled := flushTest_settled (settled_of_frame h)

section
variable {s : State} (h : s.linkSettled) (j : Job)
include h

theorem commitSucceeds_settled : (commitSucceeds s j).linkSettled := endJob_settled (settled_of_frame h)

theorem commitFails_settled (page : PageNo) (cause : LoopFailure) (pulses : Nat) :
    (commitFails s j page cause pulses).linkSettled :=
  endJob_settled (settled_of_frame h)

theorem journalEraseFails_settled : (journalEraseFails s j).linkSettled := endJob_settled (settled_of_frame h)

theorem journalIsHeld_settled (page : PageNo) : (journalIsHeld s j page).linkSettled := endJob_settled (settled_of_frame h)

theorem copyStepFails_settled (step : FailedStep) (after : JournalState) : (copyStepFails s j step after).linkSettled :=
  endJob_settled (settled_of_frame h)

theorem rewriteTargetFails_settled (step : FaultStep) (pulses : Nat) : (rewriteTargetFails s j step pulses).linkSettled :=
  endJob_settled (settled_of_frame h)

theorem rewriteCloseFails_settled (pulses : Nat) : (rewriteCloseFails s j pulses).linkSettled :=
  endJob_settled (settled_of_frame h)

theorem targetFails_settled (step : FaultStep) (pulses : Nat) : (targetFails s j step pulses).linkSettled := by
  unfold targetFails recoveryTargetFails
  repeat' split
  · exact rewriteTargetFails_settled h j step pulses
  · exact endReplay_settled (settled_of_frame h)
  · exact endJob_settled (settled_of_frame h)

theorem closeStepSucceeds_settled (after : JournalState) : (closeStepSucceeds s j after).linkSettled := by
  unfold closeStepSucceeds
  dsimp only
  split
  · exact endReplay_settled (settled_of_frame h)
  · exact endJob_settled (settled_of_frame h)
  · exact endJob_settled (settled_of_frame h)

theorem closeStepFails_settled (pulses : Nat) : (closeStepFails s j pulses).linkSettled := by
  unfold closeStepFails
  split
  · exact endReplay_settled (settled_of_frame h)
  · exact endJob_settled (settled_of_frame h)

/-! ### The steps of jobs -/

theorem journalCheck_settled (page : PageNo) : (journalCheck s j page).linkSettled := by
  unfold journalCheck
  repeat' split
  · exact settled_of_frame h
  · exact settled_of_frame h
  · exact settled_of_frame h
  · exact journalIsHeld_settled h j page
  · exact settled_of_frame h

theorem closeHeaderRead_settled (header : Page) : (closeHeaderRead s j header).linkSettled := by
  unfold closeHeaderRead
  split
  · exact closeStepSucceeds_settled h j _
  · exact settled_of_frame h

theorem programSucceeds_settled : (programSucceeds s j).linkSettled := by
  unfold programSucceeds
  split
  · exact commitSucceeds_settled h j
  · split <;> exact settled_of_frame h
  · exact settled_of_frame h
  · exact settled_of_frame h
  · exact settled_of_frame h
  · split
    · exact endJob_settled (settled_of_frame h)
    · exact closeStepSucceeds_settled h j _
  · exact h

theorem programFails_settled (cause : LoopFailure) (pulses : Nat) : (programFails s j cause pulses).linkSettled := by
  unfold programFails
  split
  · split
    · exact commitFails_settled h j _ cause pulses
    · exact h
  · exact copyStepFails_settled h j _ _
  · exact copyStepFails_settled h j _ _
  · exact settled_of_frame h
  · exact targetFails_settled h j _ pulses
  · exact settled_of_frame h
  · exact h

theorem eraseSucceeds_settled : (eraseSucceeds s j).linkSettled := by
  unfold eraseSucceeds
  split
  · exact settled_of_frame h
  · exact copyStepFails_settled h j _ _
  · exact settled_of_frame h
  · split
    · exact endJob_settled (settled_of_frame h)
    · exact closeStepSucceeds_settled h j _
  · exact h

theorem eraseFails_settled (pulses : Nat) : (eraseFails s j pulses).linkSettled := by
  unfold eraseFails
  split
  · exact journalEraseFails_settled h j
  · exact copyStepFails_settled h j _ _
  · exact targetFails_settled h j _ pulses
  · split
    · exact rewriteCloseFails_settled h j pulses
    · exact closeStepFails_settled h j pulses
  · exact h

theorem preReadDone_settled (page : Page) : (preReadDone s j page).linkSettled := by
  unfold preReadDone
  dsimp only
  repeat' split
  · exact commitSucceeds_settled (settled_of_frame h) j
  · exact journalCheck_settled (settled_of_frame h) _ _
  · exact settled_of_frame h
  · exact h

/-! ### Completions -/

theorem verifyDone_settled (cp : CellPage) (image : Page) (pulses : Nat) (read : Page) :
    (verifyDone s j cp image pulses read).linkSettled := by
  unfold verifyDone
  split
  · exact programSucceeds_settled h _
  · exact settled_of_frame h
  · exact programFails_settled h _ _ _

theorem jobReads_settled (page : Page) : (jobReads s j page).linkSettled := by
  unfold jobReads
  split
  · exact verifyDone_settled h j _ _ _ _
  · exact h
  · split
    · exact preReadDone_settled h j page
    · exact settled_of_frame h
    · exact settled_of_frame h
    · exact closeHeaderRead_settled h j page
    · exact h

theorem jobBlankCheck_settled (blank : Bool) : (jobBlankCheck s j blank).linkSettled := by
  unfold jobBlankCheck
  repeat' split
  · exact eraseSucceeds_settled h _
  · exact settled_of_frame h
  · exact eraseFails_settled h _ _
  · exact h

end

theorem readPageDelivered_settled {s : State} (h : s.linkSettled) (cp : CellPage) : (readPageDelivered s cp).linkSettled := by
  unfold readPageDelivered
  split
  · exact jobReads_settled (settled_of_frame h) _ _
  · exact scanRead_settled (settled_of_frame h) _

theorem blankCheckDelivered_settled {s : State} (h : s.linkSettled) (g : Target) : (blankCheckDelivered s g).linkSettled := by
  unfold blankCheckDelivered
  split
  · exact jobBlankCheck_settled (settled_of_frame h) _ _
  · exact scanBlank_settled (settled_of_frame h) _

theorem evaluateHeldRead_settled {s : State} (h : s.linkSettled) (b : Bank) : (evaluateHeldRead b s).linkSettled :=
  settled_of_frame h

theorem readPageCompletes_settled {s : State} (h : s.linkSettled) : (readPageCompletes s).linkSettled := by
  unfold readPageCompletes
  split
  · exact evaluateHeldRead_settled (readPageDelivered_settled h _) _
  · exact h

theorem blankCheckCompletes_settled {s : State} (h : s.linkSettled) : (blankCheckCompletes s).linkSettled := by
  unfold blankCheckCompletes
  split
  · exact evaluateHeldRead_settled (blankCheckDelivered_settled h _) _
  · exact h

/-! ### The commands -/

theorem releaseReset_settled {s : State} (h : s.linkSettled) : (releaseReset s).linkSettled := by
  unfold releaseReset
  split
  · exact settled_of_frame h (by simp [enterStarting]) (by simp [enterStarting])
  · exact h

theorem pwarnRises_settled {s : State} (h : s.linkSettled) : (pwarnRises s).linkSettled := by
  unfold pwarnRises
  split <;> exact settled_of_frame h

theorem pwarnFalls_settled {s : State} (h : s.linkSettled) : (pwarnFalls s).linkSettled := by
  unfold pwarnFalls
  split <;> exact settled_of_frame h

theorem resetPinFalls_settled {s : State} (h : s.linkSettled) (left : PulseResidue) : (resetPinFalls s left).linkSettled := by
  unfold resetPinFalls
  split
  · exact h
  · exact partReset_settled _ _ _

theorem takeDueReset_settled {s : State} (h : s.linkSettled) (left : PulseResidue) : (takeDueReset s left).linkSettled := by
  unfold takeDueReset
  split
  · exact partReset_settled _ _ _
  · exact h

theorem chooseIf_settled {s : State} (h : s.linkSettled) (test : Choice → Bool) : (chooseIf s test).linkSettled := by
  unfold chooseIf
  repeat' split
  all_goals exact settled_of_frame h

theorem replayDue_settled {s : State} (h : s.linkSettled) : (replayDue s).linkSettled := by
  unfold replayDue
  repeat' split
  all_goals exact settled_of_frame h

theorem ageTimerExpires_settled {s : State} (h : s.linkSettled) : (ageTimerExpires s).linkSettled := by
  unfold ageTimerExpires
  split <;> exact settled_of_frame h

/-- A command, no request being held, keeps the law: BYTE_RECEIVED and RESPONSE_SENT may leave a request held, the other events of the
link, the resets and the completions leave none, and the rest of the commands leave the link. -/
theorem exec_linkLaw {c : Instr} {s t : State} (h : s.linkSettled) (he : exec c s = .next t) : t.linkLaw := by
  cases c <;> obtain rfl := Host.Outcome.next.inj he
  case byteReceived => exact byteComes_linkLaw h _
  case responseSent => exact responseSentComes_linkLaw h
  all_goals refine State.linkSettled.linkLaw ?_
  case powerOn => exact partReset_settled _ _ _
  case resetPin => exact resetPinFalls_settled h _
  case linkCommandReset => exact takeDueReset_settled h _
  case resetRelease => exact releaseReset_settled h
  case pwarnAsserted => exact pwarnRises_settled h
  case pwarnDeasserted => exact pwarnFalls_settled h
  case ageTimerExpiry => exact ageTimerExpires_settled h
  case readPageComplete => exact readPageCompletes_settled h
  case blankCheckComplete => exact blankCheckCompletes_settled h
  case commit | restore | closeJob => exact chooseIf_settled h _
  case replay => exact replayDue_settled h
  case endOfStartup => split <;> exact settled_of_frame h
  case flushDeferredResponse => exact flushTest_settled h
  case syncCandidateBegin => exact beginCandidate_settled h
  case syncByte => exact judgeCandidate_settled h _ _ _
  case syncCandidateTimeout => exact abandonCandidate_settled h
  case syncAnswerSent => exact syncAnswerEnds_settled h
  case gap => exact gapFound_settled h
  case framingError => exact framingErrorFound_settled h
  case quietWaitEnd => exact quietEnds_settled h
  case overrun => exact startBit_settled h
  case breakRecognised => exact breakComes_settled (fun _ => h) fun f hf => by simp [h.no_request] at hf
  case lengthFaultFrame | badCommand | ident | status | getRegion | setRegion | getSettings | setSetting | flush | readFault
    | ackFault | retryPage | discardPage | restoreSector | dropJournal | resetPart => exact receiveBytes_settled h _
  all_goals exact settled_of_frame h

/-- Settles O60: a request is held only with a break at the front of the queue, which takes it; with none held each command, and the idle
step, keep the law. -/
theorem stepKeepsTheLinkLaw : Obligations.StepKeepsTheLinkLaw := by
  intro s t h hstep
  cases hreq : s.unit.request with
  | none =>
    have hsettled := h.linkSettled hreq
    obtain ⟨-, rfl⟩ | ⟨c, rest, -, he⟩ := step_cases hstep
    · exact State.linkSettled.linkLaw (settled_of_frame hsettled)
    · exact exec_linkLaw (s := { s with pending := rest }) hsettled he
  | some f =>
    obtain ⟨hnext, hexecutes⟩ := h.of_request hreq
    obtain ⟨hempty, -⟩ | ⟨c, rest, hp, he⟩ := step_cases hstep
    · simp [hempty] at hnext
    · obtain rfl : c = .breakRecognised := by simpa [hp] using hnext
      obtain rfl := Host.Outcome.next.inj he
      exact (breakComes_settled (s := { s with pending := rest }) (fun hnone => by simp [hreq] at hnone)
        fun _ _ => hexecutes).linkLaw

end Sys2Proof.Machine
end

section
/-! PROOF. The events of the link, one by one: rate sync, start bits and bytes, framing errors, gaps, the end of a response and breaks
(R161 to R166). -/

namespace Sys2Proof.Machine

set_option Elab.async false

/-! ### Rate sync -/

theorem seeksSync_iff {s : State} : seeksSync s = true ↔ s.link.state = .syncWait ∧ s.frontEnd ≠ .inReset := by simp [seeksSync]

theorem acceptsCandidate_iff {m : Nat} {byte : Byte} {stop : Bool} :
    acceptsCandidate m byte stop = true ↔ 8000 ≤ m ∧ m ≤ 832000 ∧ byte = 0x55#8 ∧ stop = true := by
  simp [acceptsCandidate, and_assoc]

section
variable {s : State} (h : seeksSync s = true)
include h

theorem beginCandidate_of_seeksSync : beginCandidate s = { s with link := { s.link with candidate := true } } := if_pos h

theorem abandonCandidate_of_seeksSync : abandonCandidate s = { s with link := { s.link with candidate := false } } := if_pos h

theorem judgeCandidate_accepted {m : Nat} {byte : Byte} {stop : Bool} (ha : acceptsCandidate m byte stop = true) :
    judgeCandidate s m byte stop = { s with link := { s.link with
      state := .idle, bitTime := some m, candidate := false, transmitter := .syncAnswer none } } := by
  simp [judgeCandidate, h, ha]

theorem judgeCandidate_rejected {m : Nat} {byte : Byte} {stop : Bool} (ha : ¬ acceptsCandidate m byte stop = true) :
    judgeCandidate s m byte stop = { s with link := { s.link with candidate := false } } := by
  simp [judgeCandidate, ha, abandonCandidate_of_seeksSync h]

end

/-- Settles O35: a candidate by the conditions of R162, and the end of the sync answer by what the transmitter holds. -/
theorem syncByteSetsTheRate : Obligations.SyncByteSetsTheRate := by
  refine fun s m byte stop => ⟨fun hsync hout => ?_, fun hnone => ?_, fun htr => ?_, fun r htr => ?_, fun bytes resets htr => ?_⟩
  · have hseeks : seeksSync s = true := seeksSync_iff.2 ⟨hsync, hout⟩
    refine ⟨congrArg _ (beginCandidate_of_seeksSync hseeks), congrArg _ (abandonCandidate_of_seeksSync hseeks),
      fun hmin hmax hbyte hstop => congrArg _ (judgeCandidate_accepted hseeks (acceptsCandidate_iff.2 ⟨hmin, hmax, hbyte, hstop⟩)),
      fun hfault => congrArg _ (judgeCandidate_rejected hseeks fun ha => ?_)⟩
    obtain ⟨hmin, hmax, hbyte, hstop⟩ := acceptsCandidate_iff.1 ha
    obtain hlow | hhigh | hother | hzero := hfault
    · omega
    · omega
    · exact hother hbyte
    · simp [hzero] at hstop
  · have hseeks : ¬ seeksSync s = true := by
      rw [seeksSync_iff]
      rintro ⟨hsync, hout⟩
      exact hnone.elim (fun hn => hn hsync) hout
    have habandon : abandonCandidate s = s := if_neg hseeks
    have hjudge : judgeCandidate s m byte stop = s := by simp [judgeCandidate, hseeks, habandon]
    exact ⟨congrArg _ (if_neg hseeks), congrArg _ habandon, congrArg _ hjudge⟩
  · exact congrArg Host.Outcome.next (by simp only [syncAnswerEnds, htr]; rfl)
  · exact congrArg Host.Outcome.next (by simp only [syncAnswerEnds, htr]; rfl)
  · refine congrArg Host.Outcome.next ?_
    obtain hrest | hsends := htr
    · simp only [syncAnswerEnds, hrest]
    · simp only [syncAnswerEnds, hsends]

/-! ### The count of an overrun frame -/

theorem countBytes_fault {s : State} {len : Byte} {n : Nat} (h : 12 < len.toNat) : countBytes s n (some len) = dropFrame (quietOn s) := by
  simp [countBytes, h]

theorem countBytes_ends {s : State} {len : Byte} {n : Nat} (hl : len.toNat ≤ 12) (h : n = len.toNat + 4) :
    countBytes s n (some len) = dropFrame s := by
  simp [countBytes, Nat.not_lt.2 hl, h]

theorem countBytes_goes_on {s : State} {len : Byte} {n : Nat} (hl : len.toNat ≤ 12) (h : n ≠ len.toNat + 4) :
    countBytes s n (some len) = { s with link := { s.link with frame := some (.overrun n (some len)) } } := by
  simp [countBytes, Nat.not_lt.2 hl, h]

/-! ### Bytes -/

theorem receives_iff {s : State} : receives s = true ↔ s.linkReceives := by
  simp only [receives, State.linkReceives, Bool.and_eq_true, bne_iff_ne, Bool.not_eq_true']
  tauto

theorem receives_eq_false {s : State} (h : ¬ s.linkReceives) : receives s = false := by
  rwa [← receives_iff, Bool.not_eq_true] at h

theorem byteComes_of_not_receives {s : State} (h : receives s = false) (b : Byte) : byteComes s b = s := by
  simp [byteComes, requestOfByte, receiveByte, h]

theorem byteComes_of_no_request {s : State} {b : Byte} (h : requestOfByte s b = none) : byteComes s b = receiveByte s b := by
  simp [byteComes, h]

section
variable {s : State} (hr : receives s = true) {b : Byte}
include hr

/-- A byte that joins a frame in progress without completing it. -/
theorem byteComes_keeping {bytes : List Byte} (hf : s.link.frame = some (.keeping bytes)) (hg : frameOf (bytes ++ [b]) = none) :
    byteComes s b = { s with link := { s.link with frame := some (.keeping (bytes ++ [b])) } } := by
  rw [byteComes_of_no_request (by simp [requestOfByte, hf, hg]), receiveByte_keeping hr hf]
  simp [keepBytes, hg]

/-- The byte that completes a frame in RECEIVING hands it over, the link BUSY (R161, R163). -/
theorem byteComes_handsOver {bytes : List Byte} {f : Frame} (hrec : s.link.state = .receiving)
    (hf : s.link.frame = some (.keeping bytes)) (hg : frameOf (bytes ++ [b]) = some f) :
    byteComes s b =
      (({ s with link := { s.link with
          frame := none, state := .busy, quietWait := (quietAfter s f).link.quietWait } } : State).handedOver f) := by
  have hreq : requestOfByte s b = some f := by simp [requestOfByte, hr, hrec, hf, hg]
  have hrun : receiveByte s b = completeFrame (quietAfter s f) f := by
    rw [receiveByte_keeping hr hf]
    simp [keepBytes, hg]
  unfold byteComes State.handedOver
  simp only [hreq, hrun, breakIsNext_iff]
  cases f <;> simp [quietAfter, quietOn, holdRequest, completeFrame, hrec]

/-- The byte that completes a frame in BUSY buffers it (R166). -/
theorem byteComes_buffers {bytes : List Byte} {f : Frame} (hbusy : s.link.state = .busy)
    (hf : s.link.frame = some (.keeping bytes)) (hg : frameOf (bytes ++ [b]) = some f) :
    byteComes s b =
      { s with link := { s.link with
          frame := none, buffered := some f, quietWait := (quietAfter s f).link.quietWait } } := by
  rw [byteComes_of_no_request (by simp [requestOfByte, hbusy]), receiveByte_keeping hr hf]
  cases f <;> simp [keepBytes, hg, quietAfter, quietOn, completeFrame, hbusy]

/-- A byte of an overrun frame is counted (R166). -/
theorem byteComes_overrun {n : Nat} {len : Option Byte} (hf : s.link.frame = some (.overrun n len)) :
    byteComes s b = countBytes s (n + 1) (if n + 1 = 3 then some b else len) := by
  rw [byteComes_of_no_request (by simp [requestOfByte, hf])]
  simp [receiveByte, hr, startBit_of_frame hf, joinFrame, hf]

/-- The first start bit of a frame begins an overrun while the buffered frame is held (R166). -/
theorem startBit_overruns (hf : s.link.frame = none) (hb : s.link.buffered.isSome = true) :
    startBit s = { s with link := { s.link with frame := some (.overrun 0 none), overrunFlag := true } } := by
  simp [startBit, hr, hf, beginFrame, hb, beginOverrun]

theorem byteComes_first (hf : s.link.frame = none) (hb : s.link.buffered = none) :
    byteComes s b =
      { s with link := { s.link with
          frame := some (.keeping [b]), state := if s.link.state = .idle then .receiving else s.link.state } } := by
  rw [byteComes_of_no_request (by simp [requestOfByte, hf]), receiveByte_first hr hf hb]

theorem byteComes_first_overruns (hf : s.link.frame = none) (hb : s.link.buffered.isSome = true) :
    byteComes s b = { s with link := { s.link with frame := some (.overrun 1 none), overrunFlag := true } } := by
  rw [byteComes_of_no_request (by simp [requestOfByte, hf])]
  simp [receiveByte, hr, startBit_overruns hr hf hb, joinFrame, countBytes]

theorem gapFound_of_frame (hf : s.link.frame.isSome = true) : gapFound s = dropFrame s := by simp [gapFound, hr, hf]

end

theorem gapFound_of_not_receives {s : State} (h : receives s = false) : gapFound s = s := by simp [gapFound, h]

theorem gapFound_of_no_frame {s : State} (h : s.link.frame = none) : gapFound s = s := by simp [gapFound, h]

theorem frameOf_length {cmd tag len : Byte} :
    frameOf ([cmd, tag] ++ [len]) = if 12 < len.toNat then some (.lengthFault cmd tag len) else none := rfl

/-- Settles O36: a byte on the wire by its levels, and a byte received by the frame it joins. -/
theorem bytesJoinTheFrame : Obligations.BytesJoinTheFrame := by
  refine ⟨fun c => ⟨wireBits_levels c, receivedByte_wireBits c, fun _ => receivedByte_eq_some⟩, fun s b => ⟨fun hnone => ?_, ?_⟩⟩
  · have hr := receives_eq_false hnone
    exact ⟨congrArg _ (byteComes_of_not_receives hr b), congrArg _ (gapFound_of_not_receives hr)⟩
  intro hreceives
  have hr := receives_iff.2 hreceives
  refine ⟨fun hf hb => congrArg _ (byteComes_first hr hf hb), fun hf => congrArg _ (byteComes_keeping hr hf rfl),
    fun cmd hf => congrArg _ (byteComes_keeping hr hf rfl), fun cmd tag hf => ⟨fun hle => ?_, fun hgt => ?_⟩,
    fun cmd tag len args hf hl => congrArg _ (byteComes_keeping hr hf (frameOf_argument hl)),
    fun cmd tag len args hf hl => ⟨fun hrec => congrArg _ (byteComes_handsOver hr hrec hf (frameOf_last hl)),
      fun hbusy => congrArg _ (byteComes_buffers hr hbusy hf (frameOf_last hl))⟩,
    fun hf hb => congrArg _ (byteComes_first_overruns hr hf hb), ?_, fun hf => congrArg _ (gapFound_of_no_frame hf)⟩
  · exact congrArg _ (byteComes_keeping hr hf (frameOf_length.trans (if_neg (by omega))))
  · have hfault : frameOf ([cmd, tag] ++ [b]) = some (.lengthFault cmd tag b) := frameOf_length.trans (if_pos hgt)
    exact ⟨fun hrec => congrArg _ (byteComes_handsOver hr hrec hf hfault),
      fun hbusy => congrArg _ (byteComes_buffers hr hbusy hf hfault)⟩
  · rintro _ rfl
    refine ⟨fun n hn hf => congrArg Host.Outcome.next ?_, fun hf => ?_, fun n len hn hlen hf => ?_,
      fun hf => congrArg _ (gapFound_of_frame hr hf)⟩
    · rw [byteComes_overrun hr hf, if_neg (by omega)]
      rfl
    · have hcount : byteComes s b = countBytes s 3 (some b) := byteComes_overrun hr hf
      refine ⟨fun hle => congrArg Host.Outcome.next ?_, fun hgt => congrArg Host.Outcome.next ?_⟩
      · rw [hcount, countBytes_goes_on hle (by omega)]
      · rw [hcount, countBytes_fault hgt]
        rfl
    · have hcount : byteComes s b = countBytes s (n + 1) (some len) := by
        rw [byteComes_overrun hr hf, if_neg (by omega)]
      refine ⟨fun hlt => congrArg Host.Outcome.next ?_, fun hend => congrArg Host.Outcome.next ?_⟩
      · rw [hcount, countBytes_goes_on hlen (by omega)]
      · rw [hcount, countBytes_ends hlen hend]
        rfl

/-! ### Start bits and the ends of responses -/

/-- The end of a response with a buffered frame hands it over, the link BUSY (R166). -/
theorem responseSentComes_handsOver {s : State} {bytes : List Byte} {f : Frame} (htr : s.link.transmitter = .response bytes false)
    (hb : s.link.buffered = some f) :
    responseSentComes s =
      (({ s with link := { s.link with transmitter := .resting, buffered := none, state := .busy } } : State).handedOver f) := by
  have hreq : requestOfResponse s = some f := by simp [requestOfResponse, htr, hb]
  unfold responseSentComes State.handedOver
  simp only [hreq, breakIsNext_iff, responseEnds, htr, linkMovesOn, hb]
  rfl

theorem responseSentComes_of_no_request {s : State} (h : requestOfResponse s = none) : responseSentComes s = responseEnds s := by
  simp [responseSentComes, h]

/-- With no response being sent, the byte that ends is the one STX completes after a break (log 26). -/
theorem responseSentComes_of_not_sending {s : State} {r : Option Response}
    (htr : s.link.transmitter = .resting ∨ s.link.transmitter = .syncAnswer r) : responseSentComes s = byteCompleted s := by
  obtain hrest | hsync := htr
  · rw [responseSentComes_of_no_request (by simp [requestOfResponse, hrest])]
    simp only [responseEnds, hrest]
  · rw [responseSentComes_of_no_request (by simp [requestOfResponse, hsync])]
    simp only [responseEnds, hsync]

/-- Settles O38: a start bit by what is in progress and buffered, the end of a response by what it leaves to do. -/
theorem overrunAndHandOver : Obligations.OverrunAndHandOver := by
  refine fun s => ⟨fun hreceives hf hb => congrArg _ (startBit_begins (receives_iff.2 hreceives) hf hb),
    fun hreceives hf hb => congrArg _ (startBit_overruns (receives_iff.2 hreceives) hf hb),
    fun hnone => congrArg Host.Outcome.next ?_, fun bytes htr => congrArg Host.Outcome.next ?_, fun bytes htr => ⟨fun f hb =>
      congrArg _ (responseSentComes_handsOver htr hb), fun hb => congrArg Host.Outcome.next ?_⟩,
    fun r htr => congrArg Host.Outcome.next ?_⟩
  · obtain hnone | hframe := hnone
    · simp [startBit, receives_eq_false hnone]
    · obtain ⟨frame, hf⟩ := Option.isSome_iff_exists.1 hframe
      exact startBit_of_frame hf
  · rw [responseSentComes_of_no_request (by simp [requestOfResponse, htr])]
    simp only [responseEnds, htr]
  · rw [responseSentComes_of_no_request (by simp [requestOfResponse, htr, hb])]
    simp only [responseEnds, htr, linkMovesOn, hb]
  · exact responseSentComes_of_not_sending htr

end Sys2Proof.Machine
end

section
/-! PROOF. Framing errors and breaks, and that a break and the request in hand come to the same in both orders (R164, R165, log 11). -/

namespace Sys2Proof.Machine

set_option Elab.async false

/-! ### Framing errors -/

theorem framingErrorFound_of_receives {s : State} (h : receives s = true) :
    framingErrorFound s =
      { s with link := { s.link with
          frame := none, framingFlag := true, quietWait := true,
          state := if s.link.state = .receiving then .idle else s.link.state } } := if_pos h

theorem framingErrorFound_of_not_receives {s : State} (h : receives s = false) : framingErrorFound s = s := by
  simp [framingErrorFound, h]

/-! ### Breaks -/

/-- The link after a break, but for the byte left on STX (R165). -/
def Link.broken (l : Link) : Link :=
  { l with
    state := .syncWait, bitTime := none, candidate := false, frame := none, buffered := none, quietWait := false,
    transmitter := transmitterAfterBreak l }

theorem breakFound_of_not_syncWait {s : State} (h : s.link.state ≠ .syncWait) :
    breakFound s =
      { s with
        link := { s.link.broken with completing := byteLeftOnStx s }
        unit := { s.unit with deferred := none, resetDue := s.unit.resetDue || responseResets s }
        freeIndex := freeIndexAfterBreak s } := if_neg h

theorem breakComes_of_no_request {s : State} (h : s.unit.request = none) : breakComes s = breakFound s := by
  simp [breakComes, h]

/-- A byte of the response is left on STX, whichever the free value picks (log 26). -/
theorem byteLeftOnStx_mem {s : State} {bytes : List Byte} {resets : Bool} (htr : s.link.transmitter = .response bytes resets)
    (hne : bytes ≠ []) : ∃ b ∈ bytes, byteLeftOnStx s = some b := by
  have hlt : Config.byteOnStx s.freeIndex % bytes.length < bytes.length := Nat.mod_lt _ (List.length_pos_iff.2 hne)
  refine ⟨bytes[Config.byteOnStx s.freeIndex % bytes.length], List.getElem_mem hlt, ?_⟩
  simp only [byteLeftOnStx, htr, List.getElem?_eq_getElem hlt]

section
variable {s : State} (hsync : s.link.state ≠ .syncWait)
include hsync

theorem breakFound_of_resting (htr : s.link.transmitter = .resting) :
    breakFound s =
      { s with
        link := { s.link with
          state := .syncWait, bitTime := none, candidate := false, frame := none, buffered := none, quietWait := false }
        unit := { s.unit with deferred := none } } := by
  rw [breakFound_of_not_syncWait hsync]
  simp [Link.broken, transmitterAfterBreak, byteLeftOnStx, responseResets, freeIndexAfterBreak, htr]

/-- The sync answer is completed, unless it waits behind a byte (R165, logs 22 and 26). -/
theorem breakFound_of_syncAnswer {behind : Option Response} (htr : s.link.transmitter = .syncAnswer behind) :
    breakFound s =
      { s with
        link := { s.link with
          state := .syncWait, bitTime := none, candidate := false, frame := none, buffered := none, quietWait := false,
          transmitter := if s.link.completing = none then .syncAnswer none else .resting }
        unit := { s.unit with deferred := none, resetDue := s.unit.resetDue || behind.any (·.resets) } } := by
  have htransmitter : transmitterAfterBreak s.link = if s.link.completing = none then .syncAnswer none else .resting := by
    cases hc : s.link.completing <;> simp [transmitterAfterBreak, htr, hc]
  have hresets : responseResets s = behind.any (·.resets) := by
    cases behind <;> simp only [responseResets, htr] <;> rfl
  rw [breakFound_of_not_syncWait hsync, hresets]
  simp [Link.broken, htransmitter, byteLeftOnStx, freeIndexAfterBreak, htr]

theorem breakFound_of_response {bytes : List Byte} {resets : Bool} (htr : s.link.transmitter = .response bytes resets) :
    breakFound s =
      { s with
        link := { s.link with
          state := .syncWait, bitTime := none, candidate := false, frame := none, buffered := none, quietWait := false,
          transmitter := .resting, completing := byteLeftOnStx s }
        unit := { s.unit with deferred := none, resetDue := s.unit.resetDue || resets }
        freeIndex := s.freeIndex + 1 } := by
  rw [breakFound_of_not_syncWait hsync]
  simp [Link.broken, transmitterAfterBreak, responseResets, freeIndexAfterBreak, htr]

end

/-! ### A break and the request in hand -/

/-- The execution of a request leaves what the command unit holds. -/
theorem deliver_request (s : State) (reply : Reply) : (deliver s reply).unit.request = s.unit.request := by
  cases reply with
  | sends r =>
    have hrespond : (respond s r).unit = s.unit := by simp
    simp only [deliver]
    split
    · rfl
    · rw [hrespond]
  | defers tag =>
    simp only [deliver, deferResponse, flushTest]
    repeat' split
    · rfl
    · simp
    · rfl

theorem executeFrame_request_held (s : State) (f : Frame) : (executeFrame s f).unit.request = s.unit.request := by
  obtain ⟨u, reply, he⟩ := executeFrame_replies s f
  have hs : executeFrame s f = deliver (u.withLink s.link s.unit s.freeIndex) reply := he s.link s.unit s.freeIndex
  rw [hs]
  exact deliver_request _ reply

/-- With nothing but the sync answer being sent, a break leaves no byte of a response and makes no reset due. -/
theorem break_of_quiet {s : State} (h : s.link.transmitter.quiet = true) :
    byteLeftOnStx s = s.link.completing ∧ responseResets s = false ∧ freeIndexAfterBreak s = s.freeIndex := by
  unfold byteLeftOnStx responseResets freeIndexAfterBreak
  cases htr : s.link.transmitter with
  | resting => exact ⟨rfl, rfl, rfl⟩
  | syncAnswer behind =>
    cases behind with
    | none => exact ⟨rfl, rfl, rfl⟩
    | some r => simp [htr, Transmitter.quiet] at h
  | response bytes resets => simp [htr, Transmitter.quiet] at h

section
variable {s : State} (h : s.link.executes s.unit)
include h

theorem not_syncWait_of_executes : s.link.state ≠ .syncWait := by simp [h.busy]

/-- A break before the execution (R165). -/
theorem breakFound_of_executes :
    breakFound s = s.withLink s.link.broken { s.unit with deferred := none } s.freeIndex := by
  obtain ⟨hbyte, hresets, hindex⟩ := break_of_quiet h.quiet
  rw [breakFound_of_not_syncWait (not_syncWait_of_executes h), hbyte, hresets, hindex, Bool.or_false]
  rfl

/-- What a reply leaves of the link, and what a break makes of it: the response begins, stands behind the sync answer, or is deferred. -/
theorem deliver_link (reply : Reply) :
    ∃ (tr : Transmitter) (overrun framing : Bool) (deferred : Option Byte),
      deliver s reply =
        { s with
          link := { s.link with transmitter := tr, overrunFlag := overrun, framingFlag := framing }
          unit := { s.unit with deferred := deferred } } ∧
      transmitterAfterBreak { s.link with transmitter := tr, overrunFlag := overrun, framingFlag := framing } =
        transmitterAfterBreak s.link ∧
      responseResets (deliver s reply) = reply.resets := by
  have hquiet := h.quiet
  obtain ⟨r, hr, he⟩ | ⟨hr, tag, he⟩ := deliver_of_not_syncWait (not_syncWait_of_executes h) h.no_deferral reply
  · rw [he, ← hr]
    cases htr : s.link.transmitter with
    | resting =>
      have hbegins : respond s r = beginResponse s r := by simp [respond, h.busy, htr]
      rw [hbegins]
      exact ⟨_, false, false, s.unit.deferred, rfl, by simp [transmitterAfterBreak, htr], rfl⟩
    | syncAnswer behind =>
      rw [respond_behind h.busy htr]
      exact ⟨.syncAnswer (some r), s.link.overrunFlag, s.link.framingFlag, s.unit.deferred, rfl,
        by simp [transmitterAfterBreak, htr], rfl⟩
    | response bytes resets => simp [htr, Transmitter.quiet] at hquiet
  · obtain ⟨-, hresets, -⟩ := break_of_quiet (s := deliver s reply) (by rw [he]; exact hquiet)
    rw [hresets, hr, he]
    exact ⟨s.link.transmitter, s.link.overrunFlag, s.link.framingFlag, some tag, rfl, rfl, rfl⟩

/-- A break after a reply leaves what it leaves before one, but for OVERRUN, FRAMING, the byte on STX, the count of free values and
RESET_PART's reset (R165). -/
theorem breakFound_deliver (reply : Reply) :
    ∃ (overrun framing : Bool) (onStx : Option Byte) (k : Nat),
      breakFound (deliver s reply) =
        s.withLink { s.link.broken with overrunFlag := overrun, framingFlag := framing, completing := onStx }
          { s.unit with deferred := none, resetDue := s.unit.resetDue || reply.resets } k := by
  obtain ⟨tr, overrun, framing, deferred, he, htr, hresets⟩ := deliver_link h reply
  refine ⟨overrun, framing, byteLeftOnStx (deliver s reply), freeIndexAfterBreak (deliver s reply), ?_⟩
  have hsync : (deliver s reply).link.state ≠ .syncWait := by
    have hs := not_syncWait_of_executes h
    rw [he]
    exact hs
  rw [breakFound_of_not_syncWait hsync, hresets]
  generalize byteLeftOnStx (deliver s reply) = onStx
  generalize freeIndexAfterBreak (deliver s reply) = k
  rw [he]
  simp only [Link.broken, htr]
  rfl

end

/-- The two orders of a break and a request in hand, the law of the link holding: they differ in OVERRUN, FRAMING, the byte on STX and
the count of free values (R165, log 11). -/
theorem break_orders_agree {u : State} (h : u.link.executes u.unit) (f : Frame) :
    executeFrame (breakFound u) f =
      { breakFound (executeFrame u f) with
        link := { (breakFound (executeFrame u f)).link with
          overrunFlag := u.link.overrunFlag, framingFlag := u.link.framingFlag, completing := u.link.completing }
        freeIndex := u.freeIndex } := by
  obtain ⟨w, reply, he⟩ := executeFrame_replies u f
  have hfirst : executeFrame u f = deliver (w.withLink u.link u.unit u.freeIndex) reply := he u.link u.unit u.freeIndex
  obtain ⟨overrun, framing, onStx, k, hbreak⟩ :=
    breakFound_deliver (s := w.withLink u.link u.unit u.freeIndex) h reply
  rw [hfirst, hbreak, breakFound_of_executes h]
  refine (he _ _ _).trans ?_
  rw [deliver_of_syncWait rfl]
  rfl

/-! ### The statement -/

theorem executeFrame_resetPart_of_syncWait {u : State} {tag check : Byte} (hsync : u.link.state = .syncWait)
    (hstarting : u.frontEnd ≠ .starting) (hsum : 0x7F#8 + tag + 0#8 + check = 0#8) :
    executeFrame u (.whole 0x7F#8 tag 0#8 [] check) = { u with unit := { u.unit with resetDue := true } } := by
  have hcheck : checkHolds 0x7F#8 tag 0#8 [] check = true := by simpa [checkHolds] using hsum
  have hrun : executeFrame u (.whole 0x7F#8 tag 0#8 [] check) = runResetPart u tag := by simp only [executeFrame, hcheck]; rfl
  rw [hrun, runResetPart, if_neg hstarting, if_pos hsync]

/-- Settles O37: each fault by the state it finds, a break by what the transmitter holds, and a break with a request in hand by the order
that the free value picks. -/
theorem linkFaultsAreRecovered : Obligations.LinkFaultsAreRecovered := by
  refine ⟨fun s => ⟨fun hreceives => congrArg _ (framingErrorFound_of_receives (receives_iff.2 hreceives)),
    fun hnone => congrArg _ (framingErrorFound_of_not_receives (receives_eq_false hnone)), rfl, ?_, ?_, ?_⟩, ?_, ?_⟩
  · rintro _ hsync hreq rfl
    have hbreak := breakComes_of_no_request hreq
    refine ⟨fun htr => congrArg _ (hbreak.trans ?_), fun behind htr => congrArg _ (hbreak.trans ?_), fun bytes resets htr hne => ?_⟩
    · exact breakFound_of_resting hsync htr
    · exact breakFound_of_syncAnswer hsync htr
    · obtain ⟨b, hmem, hb⟩ := byteLeftOnStx_mem htr hne
      refine ⟨b, hmem, breakFound s, congrArg _ hbreak, ?_, ?_⟩
      · rw [breakFound_of_response hsync htr, hb]
        rfl
      · rw [breakFound_of_response hsync htr, hb]
  · intro hsync hout hreq
    refine congrArg _ ((breakComes_of_no_request hreq).trans ?_)
    rw [breakFound, if_pos hsync]
    exact abandonCandidate_of_seeksSync (seeksSync_iff.2 ⟨hsync, hout⟩)
  · rintro f _ hreq rfl
    refine ⟨breakFound (executeFrame _ f), breakFound _, congrArg _ (breakComes_of_no_request ?_), congrArg _ (breakComes_of_no_request rfl),
      ?_, ?_⟩
    · exact executeFrame_request_held _ f
    · have hrun : breakComes s = breakWithRequest { s with unit := { s.unit with request := none } } f := by
        simp only [breakComes, hreq]
      unfold breakWithRequest at hrun
      split at hrun
      · exact Or.inr (congrArg _ hrun)
      · exact Or.inl (congrArg _ hrun)
    · intro hlaw
      obtain ⟨-, hexecutes⟩ := hlaw.of_request hreq
      exact break_orders_agree hexecutes f
  · intro u f hsync
    obtain ⟨due, hl, hu⟩ := executeFrame_of_syncWait hsync f
    exact ⟨hl, by rw [hu]⟩
  · exact fun u tag check hsync hstarting hsum => executeFrame_resetPart_of_syncWait hsync hstarting hsum

end Sys2Proof.Machine
end

section
/-! PROOF. Frames that fail validation, on a ready link and buffered behind a response, and their answers (R163, R167). -/

namespace Sys2Proof.Machine

set_option Elab.async false

/-! ### Validation -/

theorem checkHolds_iff {cmd tag len check : Byte} {args : List Byte} :
    checkHolds cmd tag len args check = true ↔ cmd + tag + len + args.foldl (· + ·) 0#8 + check = 0#8 := by simp [checkHolds]

section
variable {s : State} {cmd tag len check : Byte} {args : List Byte}

theorem executeFrame_badCheck (h : ¬ checkHolds cmd tag len args check = true) :
    executeFrame s (.whole cmd tag len args check) = answerStatus s .badCheck tag := by
  simp [executeFrame, h]

variable (h : checkHolds cmd tag len args check = true)
include h

theorem executeFrame_badCommand (hc : requestLength cmd = none) :
    executeFrame s (.whole cmd tag len args check) = answerStatus s .badCommand tag := by
  simp [executeFrame, h, hc]

theorem executeFrame_badLength {n : Nat} (hc : requestLength cmd = some n) (hl : len.toNat ≠ n) :
    executeFrame s (.whole cmd tag len args check) = answerStatus s .badLength tag := by
  simp [executeFrame, h, hc, hl]

end

/-- A code that is none of the command codes of section 11.6 has no request length. -/
theorem requestLength_of_unknown {cmd : Byte} (h : WellFormed.knownCodes.contains cmd = false) : requestLength cmd = none := by
  simp only [WellFormed.knownCodes, List.contains_eq_mem, List.mem_cons, List.not_mem_nil, or_false, decide_eq_false_iff_not,
    not_or] at h
  simp [requestLength, h]

/-! ### On a ready link -/

theorem resting_of_linkReady {s : State} (h : s.linkReady) : s.link.transmitter = .resting := by
  obtain ⟨-, -, -, -, -, hrest, -⟩ := h
  exact hrest

/-- `s` with the link RECEIVING and some bytes of a frame kept. -/
def State.keepingBytes (s : State) (bytes : List Byte) : State :=
  { s with link := { s.link with state := .receiving, frame := some (.keeping bytes) } }

/-- The first three bytes of a frame with a length fault, on a link that is ready, are the frame: it is executed, the link BUSY and the
quiet wait on (R163). -/
theorem receiveBytes_lengthFault {s : State} (h : s.linkReady) {cmd tag len : Byte} (hl : 12 < len.toNat) :
    receiveBytes s [cmd, tag, len] =
      executeFrame ({ s with link := { s.link with quietWait := true } } : State).linkBusy (.lengthFault cmd tag len) := by
  obtain ⟨hout, hidle, hframe, hbuf, hquiet, -, -⟩ := h
  have hr : receives s = true := receives_iff.2 ⟨hout, by simp [hidle], hquiet⟩
  have hkeeps (bytes : List Byte) : receives (s.keepingBytes bytes) = true :=
    receives_iff.2 ⟨hout, by simp [State.keepingBytes], hquiet⟩
  have hcmd : receiveByte s cmd = s.keepingBytes [cmd] := by
    rw [receiveByte_first hr hframe hbuf, if_pos hidle]
    rfl
  have htag : receiveByte (s.keepingBytes [cmd]) tag = s.keepingBytes [cmd, tag] := receiveByte_keeping (hkeeps _) rfl tag
  have hlen : receiveByte (s.keepingBytes [cmd, tag]) len =
      completeFrame (quietOn (s.keepingBytes [cmd, tag])) (.lengthFault cmd tag len) := by
    rw [receiveByte_keeping (hkeeps _) rfl]
    simp only [keepBytes, frameOf_length, if_pos hl]
    rfl
  calc receiveBytes s [cmd, tag, len]
    _ = receiveByte (receiveByte (receiveByte s cmd) tag) len := rfl
    _ = completeFrame (quietOn (s.keepingBytes [cmd, tag])) (.lengthFault cmd tag len) := by rw [hcmd, htag, hlen]
    _ = executeFrame { s with link := { s.link with state := .busy, frame := none, quietWait := true } }
        (.lengthFault cmd tag len) := rfl
    _ = executeFrame ({ s with link := { s.link with quietWait := true } } : State).linkBusy (.lengthFault cmd tag len) := by
      rw [← hframe]
      rfl

/-! ### Behind a response -/

/-- At the end of a response, no break being next, a buffered frame that fails validation is answered with its status (R166, R167). -/
theorem responseSent_answers {s : State} {bytes : List Byte} {f : Frame} {st : Status} {tag : Byte}
    (hnext : s.pending.head? ≠ some .breakRecognised) (htr : s.link.transmitter = .response bytes false)
    (hb : s.link.buffered = some f) (hf : ∀ u : State, executeFrame u f = answerStatus u st tag) :
    exec .responseSent s =
      .next (({ s with link := { s.link with buffered := none } } : State).answering (statusCode st) tag [] false) := by
  refine congrArg Host.Outcome.next ?_
  rw [responseSentComes_handsOver htr hb, State.handedOver, if_neg hnext, hf]
  exact answerStatus_linkBusy (s := { s with link := { s.link with transmitter := .resting, buffered := none } }) rfl st tag

/-- Settles O39: each faulty frame by the first of its checks that fails. -/
theorem faultyFramesAreAnswered : Obligations.FaultyFramesAreAnswered := by
  refine fun s cmd tag len check args => ⟨fun hready hl => congrArg Host.Outcome.next ?_,
    fun hready hwf => congrArg Host.Outcome.next ?_, fun bytes hnext htr => ⟨fun hb => ?_, fun hb => ⟨fun hsum => ?_, fun hsum => ?_⟩⟩⟩
  · have hrest := resting_of_linkReady hready
    rw [receiveBytes_lengthFault hready hl]
    exact answerStatus_linkBusy (s := { s with link := { s.link with quietWait := true } }) hrest .badLength tag
  · obtain ⟨hunknown, hlen⟩ : WellFormed.knownCodes.contains cmd = false ∧ args.length ≤ 12 := by
      simpa only [WellFormed, Bool.and_eq_true, Bool.not_eq_true', decide_eq_true_eq] using hwf
    rw [receiveBytes_request hready cmd tag args hlen,
      executeFrame_badCommand (checkHolds_request _ _ _ _) (requestLength_of_unknown hunknown)]
    exact answerStatus_linkBusy (resting_of_linkReady hready) .badCommand tag
  · exact responseSent_answers hnext htr hb fun _ => rfl
  · exact responseSent_answers hnext htr hb fun _ => executeFrame_badCheck (mt checkHolds_iff.1 hsum)
  · have hcheck := checkHolds_iff.2 hsum
    exact ⟨fun hc => responseSent_answers hnext htr hb fun _ => executeFrame_badCommand hcheck hc,
      fun n hc hl => responseSent_answers hnext htr hb fun _ => executeFrame_badLength hcheck hc hl⟩

end Sys2Proof.Machine
end

section
/-! PROOF. The commands that read: STATUS, GET_REGION and GET_SETTINGS, and the bytes they answer with (R171, R174 to R176). -/

namespace Sys2Proof.Machine

set_option Elab.async false

/-! ### The bytes -/

theorem lowByte_ofNat (n : Nat) : lowByte (BitVec.ofNat 16 n) = BitVec.ofNat 8 (n % 256) := by
  apply BitVec.eq_of_toNat_eq
  simp [lowByte]

theorem highByte_ofNat {n : Nat} (h : n < 65536) : highByte (BitVec.ofNat 16 n) = BitVec.ofNat 8 (n / 256) := by
  apply BitVec.eq_of_toNat_eq
  simp only [highByte, BitVec.toNat_setWidth, BitVec.toNat_ushiftRight, BitVec.toNat_ofNat, Nat.shiftRight_eq_div_pow]
  omega

theorem frontEndCode_eq_of_mem {f : FrontEnd} {c : Byte}
    (h : (f, c) ∈ [(FrontEnd.starting, 0#8), (.ready, 1#8), (.draining, 2#8), (.drained, 3#8)]) : frontEndCode f = c := by
  cases f <;> simp_all [frontEndCode]

theorem jobCode_eq_of_mem {j : Option Job} {c : Byte}
    (h : (j.map Job.kind, c) ∈ [(none, 0#8), (some JobKind.commit, 1#8), (some .rewrite, 2#8), (some .restore, 3#8),
      (some .close, 4#8), (some .replay, 5#8)]) : jobCode j = c := by
  cases j with
  | none => simp_all [jobCode]
  | some j => cases hk : j.kind <;> simp_all [jobCode]

theorem resetCauseCode_eq_of_mem {r : ResetCause} {c : Byte}
    (h : (r, c) ∈ [(ResetCause.powerOn, 0#8), (.resetPin, 1#8), (.linkCommand, 2#8)]) : resetCauseCode r = c := by
  cases r <;> simp_all [resetCauseCode]

theorem pendingCode_eq_of_mem {p : PendingJob} {c : Byte}
    (h : (p, c) ∈ [(PendingJob.none, 0x80#8), (.restore, 0x81#8), (.close, 0x82#8)]) : 0x80#8 ||| pendingCode p = c := by
  cases p <;> simp_all [pendingCode]

/-- The two bytes of a bank record: no sector named, or the sector with bit 7 set over the pending job (section 11.6). -/
theorem recordBytes_eq {r : QuarantineRecord} {sector pending : Byte}
    (h : (r.sector = none ∧ r.pending = .none ∧ sector = 0#8 ∧ pending = 0#8) ∨
      ∃ sec, r.sector = some sec ∧ sector = BitVec.ofNat 8 sec.val ∧
        (r.pending, pending) ∈ [(PendingJob.none, 0x80#8), (.restore, 0x81#8), (.close, 0x82#8)]) :
    recordBytes r = [sector, pending] := by
  obtain ⟨hnone, hpending, rfl, rfl⟩ | ⟨sec, hsome, rfl, hmem⟩ := h
  · simp [recordBytes, hnone, hpending, pendingCode]
  · simp [recordBytes, hsome, pendingCode_eq_of_mem hmem]

/-! ### The commands -/

/-- A command that reads answers with its data as the state stands (R167). -/
theorem respond_data_linkBusy {s : State} (h : s.linkReady) (tag : Byte) (data : List Byte) :
    respond s.linkBusy (dataResponse tag data) = s.answering 0x00#8 tag data false :=
  respond_answering (resting_of_linkReady h) .ok tag data false

theorem exec_status {s : State} (h : s.linkReady) (tag : Byte) :
    exec (.status tag) s = .next (s.answering 0x00#8 tag (statusBlock s) false) :=
  congrArg Host.Outcome.next ((receiveBytes_eq_runCommand h (cmd := 0x02#8) tag (args := []) (by simp) rfl).trans
    (respond_data_linkBusy h tag (statusBlock s)))

theorem exec_getSettings {s : State} (h : s.linkReady) (tag : Byte) :
    exec (.getSettings tag) s = .next (s.answering 0x00#8 tag (settingsBlock s.settings) false) :=
  congrArg Host.Outcome.next ((receiveBytes_eq_runCommand h (cmd := 0x12#8) tag (args := []) (by simp) rfl).trans
    (respond_data_linkBusy h tag (settingsBlock s.settings)))

theorem exec_getRegion {s : State} (h : s.linkReady) (tag n : Byte) :
    exec (.getRegion tag n) s = .next (runGetRegion s.linkBusy tag n) :=
  congrArg Host.Outcome.next (receiveBytes_eq_runCommand h (cmd := 0x10#8) tag (args := [n]) (by simp) rfl)

theorem exec_getRegion_ok {s : State} (h : s.linkReady) (tag : Byte) (n : Fin 8) :
    exec (.getRegion tag (BitVec.ofNat 8 n.val)) s = .next (s.answering 0x00#8 tag (regionRecord s.regions[n]) false) := by
  have hn : (BitVec.ofNat 8 n.val).toNat = n.val := by
    rw [BitVec.toNat_ofNat]
    omega
  rw [exec_getRegion h, runGetRegion, dif_pos (by omega)]
  simp only [hn]
  exact congrArg _ (respond_data_linkBusy h tag (regionRecord s.regions[n]))

theorem exec_getRegion_range {s : State} (h : s.linkReady) (tag : Byte) {n : Byte} (hn : 8 ≤ n.toNat) :
    exec (.getRegion tag n) s = .next (s.answering 0x04#8 tag [] false) := by
  have hanswer := answerStatus_linkBusy (s := s) (resting_of_linkReady h) .range tag
  rw [exec_getRegion h, runGetRegion, dif_neg (by omega), hanswer]
  rfl

/-- Settles O41: the answer of each reading command by the codes of the fields it lays out. -/
theorem readingCommandsReturnWhatStands : Obligations.ReadingCommandsReturnWhatStands := by
  refine fun s tag hready => ⟨fun state job cause sector pending hstate hjob hcause hrecord => ?_, fun n kind hkind => ?_,
    fun n hn => exec_getRegion_range hready tag hn, fun kind hkind => ?_⟩
  · have hzero : recordBytes s.quarantine.zero = [sector .bank0, pending .bank0] := recordBytes_eq (hrecord .bank0)
    have hone : recordBytes s.quarantine.one = [sector .bank1, pending .bank1] := recordBytes_eq (hrecord .bank1)
    rw [exec_status hready, statusBlock, frontEndCode_eq_of_mem hstate, jobCode_eq_of_mem hjob, resetCauseCode_eq_of_mem hcause,
      hzero, hone]
    rfl
  · have hbase := s.regions[n].base.isLt
    have hlimit := s.regions[n].limit.isLt
    rw [exec_getRegion_ok hready, regionRecord, kindCode_eq_of_mem hkind, lowByte_ofNat, lowByte_ofNat,
      highByte_ofNat (by omega), highByte_ofNat (by omega)]
  · rw [exec_getSettings hready, settingsBlock, kindCode_eq_of_mem hkind]

end Sys2Proof.Machine
end

section
/-! PROOF. The step, and the service commands that report and set: IDENT and its identity block, SET_SETTING and the ranges of R176,
READ_FAULT and the bytes of a fault record, ACK_FAULT and the dropped count (R155, R171, R173, R176, R178, R179). -/

namespace Sys2Proof.Machine

set_option Elab.async false

@[simp] theorem linkBusy_settings (s : State) : s.linkBusy.settings = s.settings := rfl

@[simp] theorem linkBusy_log (s : State) : s.linkBusy.log = s.log := rfl

/-! ### The step -/

/-- Settles O1: it is how `step` takes its command from a queue that is not empty. -/
theorem stepRunsTheFrontCommand : Obligations.StepRunsTheFrontCommand := fun _ _ _ => rfl

/-! ### IDENT -/

theorem exec_ident {s : State} (h : s.linkReady) (tag : Byte) :
    exec (.ident tag) s = .next (s.answering 0x00#8 tag identityBlock false) :=
  congrArg Host.Outcome.next ((receiveBytes_eq_runCommand h (cmd := 0x01#8) tag (args := []) (by simp) rfl).trans
    (respond_data_linkBusy h tag identityBlock))

/-- Settles O40: the answer is the identity block, 4096 being sent low byte first. -/
theorem identReturnsTheIdentityBlock : Obligations.IdentReturnsTheIdentityBlock :=
  fun _ tag hready => exec_ident hready tag

/-! ### The ranges of the settings (R176) -/

/-- The settings `c` with the value, in its range, at the setting that the field code names (R176). -/
def Settings.ReplacedBy (c c' : Settings) (field value : Byte) : Prop :=
  (field = 0#8 ∧ 1 ≤ value.toNat ∧ c' = { c with tick := value.toNat }) ∨
  (field = 1#8 ∧ 1 ≤ value.toNat ∧ value.toNat ≤ 15 ∧ c' = { c with delay := value.toNat }) ∨
  (field = 2#8 ∧ 5 ≤ value.toNat ∧ value.toNat ≤ 80 ∧ c' = { c with pgmPulse := value.toNat }) ∨
  (field = 3#8 ∧ 1 ≤ value.toNat ∧ value.toNat ≤ 8 ∧ c' = { c with pgmMax := value.toNat }) ∨
  (field = 4#8 ∧ 1 ≤ value.toNat ∧ value.toNat ≤ 16 ∧ c' = { c with ersPulse := value.toNat }) ∨
  (field = 5#8 ∧ 1 ≤ value.toNat ∧ value.toNat ≤ 15 ∧ c' = { c with ersMax := value.toNat }) ∨
  (field = 6#8 ∧ 1 ≤ value.toNat ∧ c' = { c with holdLimit := value.toNat }) ∨
  (∃ k, field = 7#8 ∧
    (k, value) ∈ [(AccessKind.buffered, 0#8), (.through, 1#8), (.readOnly, 2#8), (.noAccess, 3#8)] ∧
    c' = { c with defaultKind := k })

theorem withSetting_of_replacedBy {c c' : Settings} {field value : Byte} (h : c.ReplacedBy c' field value) :
    withSetting c field value = some c' := by
  obtain ⟨rfl, hlo, rfl⟩ | ⟨rfl, hlo, hhi, rfl⟩ | ⟨rfl, hlo, hhi, rfl⟩ | ⟨rfl, hlo, hhi, rfl⟩ | ⟨rfl, hlo, hhi, rfl⟩ |
    ⟨rfl, hlo, hhi, rfl⟩ | ⟨rfl, hlo, rfl⟩ | ⟨k, rfl, hk, rfl⟩ := h
  · exact if_pos hlo
  · exact if_pos ⟨hlo, hhi⟩
  · exact if_pos ⟨hlo, hhi⟩
  · exact if_pos ⟨hlo, hhi⟩
  · exact if_pos ⟨hlo, hhi⟩
  · exact if_pos ⟨hlo, hhi⟩
  · exact if_pos hlo
  · exact congrArg (Option.map _) (kindOfCode_eq_some_iff.2 (kindCode_eq_of_mem hk))

theorem kindOfCode_eq_none {c : Byte} (h : 3 < c.toNat) : kindOfCode c = none := by
  refine Option.eq_none_iff_forall_ne_some.2 fun k hk => ?_
  obtain rfl := kindOfCode_eq_some_iff.1 hk
  exact absurd (kindCode_lt k) (by omega)

/-- A field code above 7, or a value out of the range of its setting, replaces nothing (R176). -/
theorem withSetting_eq_none (c : Settings) {field value : Byte}
    (h : 8 ≤ field.toNat ∨ (field ≠ 7#8 ∧ value = 0#8) ∨ (field = 1#8 ∧ 15 < value.toNat) ∨
      (field = 2#8 ∧ (value.toNat < 5 ∨ 80 < value.toNat)) ∨ (field = 3#8 ∧ 8 < value.toNat) ∨
      (field = 4#8 ∧ 16 < value.toNat) ∨ (field = 5#8 ∧ 15 < value.toNat) ∨ (field = 7#8 ∧ 3 < value.toNat)) :
    withSetting c field value = none := by
  obtain hfield | ⟨hfield, rfl⟩ | ⟨rfl, hhi⟩ | ⟨rfl, hout⟩ | ⟨rfl, hhi⟩ | ⟨rfl, hhi⟩ | ⟨rfl, hhi⟩ | ⟨rfl, hhi⟩ := h
  · unfold withSetting
    simp (disch := bv_omega) only [if_neg]
  · simp [withSetting, hfield]
  · exact if_neg (by omega)
  · exact if_neg (by omega)
  · exact if_neg (by omega)
  · exact if_neg (by omega)
  · exact if_neg (by omega)
  · exact congrArg (Option.map _) (kindOfCode_eq_none hhi)

/-! ### SET_SETTING -/

theorem exec_setSetting {s : State} (h : s.linkReady) (tag field value : Byte) :
    exec (.setSetting tag field value) s = .next (runSetSetting s.linkBusy tag field value) :=
  congrArg Host.Outcome.next (receiveBytes_eq_runCommand h (cmd := 0x13#8) tag (args := [field, value]) (by simp) rfl)

section
variable {s : State} (h : s.linkReady) (tag : Byte) {field value : Byte}
include h

theorem exec_setSetting_ok {c : Settings} (hc : withSetting s.settings field value = some c) :
    exec (.setSetting tag field value) s = .next (({ s with settings := c }).answering 0x00#8 tag [] false) := by
  rw [exec_setSetting h, runSetSetting, linkBusy_settings, hc]
  exact congrArg _ (answerStatus_linkBusy (s := { s with settings := c }) (resting_of_linkReady h) .ok tag)

theorem exec_setSetting_range (hc : withSetting s.settings field value = none) :
    exec (.setSetting tag field value) s = .next (s.answering 0x04#8 tag [] false) := by
  rw [exec_setSetting h, runSetSetting, linkBusy_settings, hc]
  exact congrArg _ (answerStatus_linkBusy (resting_of_linkReady h) .range tag)

end

/-- Settles O43: the value is in its range and gives the settings with one replaced, or it gives none. -/
theorem setSettingReplacesOrRefuses : Obligations.SetSettingReplacesOrRefuses := fun s tag _ _ hready =>
  ⟨fun _ hin => exec_setSetting_ok hready tag (withSetting_of_replacedBy hin),
    fun hout => exec_setSetting_range hready tag (withSetting_eq_none s.settings hout)⟩

/-! ### The bytes of a fault record (section 11.6) -/

theorem lowByte_eq (w : BitVec 16) : lowByte w = BitVec.ofNat 8 (w.toNat % 256) := by
  rw [← lowByte_ofNat, BitVec.ofNat_toNat, BitVec.setWidth_eq]

theorem highByte_eq (w : BitVec 16) : highByte w = BitVec.ofNat 8 (w.toNat / 256) := by
  rw [← highByte_ofNat w.isLt, BitVec.ofNat_toNat, BitVec.setWidth_eq]

/-- The three bytes of an address, low byte first. -/
theorem addressBytes_eq (a : BitVec 18) :
    a.setWidth 8 = BitVec.ofNat 8 (a.toNat % 256) ∧ (a >>> 8).setWidth 8 = BitVec.ofNat 8 (a.toNat / 256 % 256) ∧
      (a >>> 16).setWidth 8 = BitVec.ofNat 8 (a.toNat / 65536) := by
  simp [BitVec.toNat_eq, Nat.shiftRight_eq_div_pow]

/-- The two bytes of a page number, low byte first. -/
theorem pageBytes_eq (p : PageNo) :
    lowByte (BitVec.ofNat 16 p.val) = BitVec.ofNat 8 (p.val % 256) ∧
      highByte (BitVec.ofNat 16 p.val) = BitVec.ofNat 8 (p.val / 256) :=
  ⟨lowByte_ofNat _, highByte_ofNat (by omega)⟩

theorem directionCode_eq_of_mem {d : Direction} {c : Byte} (h : (d, c) ∈ [(Direction.read, 0#8), (.write, 1#8)]) :
    directionCode d = c := by
  cases d <;> simp_all [directionCode]

theorem reasonCode_eq_of_mem {r : RefusedReason} {c : Byte}
    (h : (r, c) ∈ [(RefusedReason.align, 0#8), (.noAccess, 1#8), (.readOnly, 2#8), (.failedPage, 3#8), (.quarantine, 4#8),
      (.stageFull, 5#8), (.holdLimit, 6#8), (.starting, 7#8)]) : reasonCode r = c := by
  cases r <;> simp_all [reasonCode]

theorem failureCode_eq_of_mem {f : LoopFailure} {c : Byte}
    (h : (f, c) ∈ [(LoopFailure.exhausted, 0#8), (.disturbed, 1#8)]) : failureCode f = c := by
  cases f <;> simp_all [failureCode]

theorem journalCode_eq_of_mem {j : Journal} {c : Byte} (h : (j, c) ∈ [(Journal.j0, 0#8), (.j1, 1#8)]) :
    journalCode j = c := by
  cases j <;> simp_all [journalCode]

theorem stepCode_eq_of_mem {st : FaultStep} {c : Byte}
    (h : (st, c) ∈ [(FaultStep.erase, 0#8), (.copy, 1#8), (.header, 2#8), (.copyDone, 3#8), (.close, 4#8), (.program, 5#8)]) :
    stepCode st = c := by
  cases st <;> simp_all [stepCode]

/-! ### READ_FAULT -/

theorem exec_readFault {s : State} (h : s.linkReady) (tag : Byte) :
    exec (.readFault tag) s = .next (runReadFault s.linkBusy tag) :=
  congrArg Host.Outcome.next (receiveBytes_eq_runCommand h (cmd := 0x30#8) tag (args := []) (by simp) rfl)

theorem exec_readFault_empty {s : State} (h : s.linkReady) (tag : Byte) (he : s.log.entries = []) :
    exec (.readFault tag) s = .next (s.answering 0x08#8 tag [] false) := by
  rw [exec_readFault h, runReadFault, linkBusy_log, he]
  exact congrArg _ (answerStatus_linkBusy (resting_of_linkReady h) .empty tag)

theorem exec_readFault_oldest {s : State} (h : s.linkReady) (tag : Byte) {e : FaultEntry} {rest : List FaultEntry}
    (he : s.log.entries = e :: rest) :
    exec (.readFault tag) s = .next (s.answering 0x00#8 tag (faultRecord e) false) := by
  rw [exec_readFault h, runReadFault, linkBusy_log, he]
  exact congrArg _ (respond_data_linkBusy h tag (faultRecord e))

/-- Settles O45: the record of the oldest entry, kind by kind. -/
theorem readFaultReturnsTheOldestEntry : Obligations.ReadFaultReturnsTheOldestEntry := by
  refine fun s tag hready => ⟨exec_readFault_empty hready tag, fun e rest fields he hfields => ?_⟩
  suffices hkind : faultFields e.kind = fields by
    rw [exec_readFault_oldest hready tag he, faultRecord, lowByte_eq, highByte_eq, hkind]
  obtain ⟨a, d, r, direction, reason, hkind, hd, hr, rfl⟩ | ⟨p, c, n, k, cause, hkind, hc, rfl⟩ |
    ⟨j, st, sec, k, journal, code, hkind, hj, hst, rfl⟩ | ⟨p, j, k, journal, hkind, hj, rfl⟩ |
    ⟨sec, st, n, code, hkind, hst, rfl⟩ | ⟨sec, code, hkind, rfl⟩ | ⟨j, w, journal, hkind, hj, rfl⟩ := hfields
  · obtain ⟨hlow, hmid, hhigh⟩ := addressBytes_eq a
    rw [hkind, faultFields, hlow, hmid, hhigh, directionCode_eq_of_mem hd, reasonCode_eq_of_mem hr]
  · obtain ⟨hlow, hhigh⟩ := pageBytes_eq p
    rw [hkind, faultFields, failureCode_eq_of_mem hc, hlow, hhigh]
  · rw [hkind, faultFields, journalCode_eq_of_mem hj, stepCode_eq_of_mem hst]
  · obtain ⟨hlow, hhigh⟩ := pageBytes_eq p
    rw [hkind, faultFields, journalCode_eq_of_mem hj, hlow, hhigh]
  · rw [hkind, faultFields, stepCode_eq_of_mem hst]
  · simp only [List.mem_cons, Prod.mk.injEq, List.not_mem_nil, or_false] at hkind
    obtain ⟨hkind, rfl⟩ | ⟨hkind, rfl⟩ | ⟨hkind, rfl⟩ := hkind <;> rw [hkind, faultFields]
  · rw [hkind, faultFields, journalCode_eq_of_mem hj, lowByte_eq, highByte_eq]

/-! ### ACK_FAULT -/

theorem exec_ackFault {s : State} (h : s.linkReady) (tag clear : Byte) (seq : BitVec 16) :
    exec (.ackFault tag seq clear) s = .next (runAckFault s.linkBusy tag seq clear) := by
  have hrun := receiveBytes_eq_runCommand h (cmd := 0x31#8) tag (args := [lowByte seq, highByte seq, clear]) (by simp) rfl
  refine congrArg Host.Outcome.next (hrun.trans ?_)
  simp only [runCommand, wordOf_lowByte_highByte, if_true]

section
variable {s : State} (h : s.linkReady) (tag : Byte) {clear : Byte}
include h

theorem exec_ackFault_range (seq : BitVec 16) (hc : 2 ≤ clear.toNat) :
    exec (.ackFault tag seq clear) s = .next (s.answering 0x04#8 tag [] false) := by
  rw [exec_ackFault h, runAckFault, if_pos (by bv_omega)]
  exact congrArg _ (answerStatus_linkBusy (resting_of_linkReady h) .range tag)

variable (hc : clear.toNat ≤ 1)
include hc

/-- With no entry to remove, the answer is STATE, and the clear flag is followed (R155, R179). -/
theorem exec_ackFault_empty (seq : BitVec 16) (he : s.log.entries = []) :
    exec (.ackFault tag seq clear) s = .next
      (({ s with log := { s.log with dropped := droppedAfter clear s.log } }).answering 0x05#8 tag [] false) := by
  rw [exec_ackFault h, runAckFault, if_neg (by bv_omega), linkBusy_log, he]
  exact congrArg _ (answerStatus_linkBusy (s := { s with log := { s.log with dropped := droppedAfter clear s.log } })
    (resting_of_linkReady h) .state tag)

variable {e : FaultEntry} {rest : List FaultEntry} (he : s.log.entries = e :: rest)
include he

/-- The oldest entry, named by its number, is removed, and the clear flag is followed (R155, R179). -/
theorem exec_ackFault_oldest :
    exec (.ackFault tag e.seq clear) s = .next
      (({ s with log := { s.log with entries := rest, dropped := droppedAfter clear s.log } }).answering
        0x00#8 tag [] false) := by
  rw [exec_ackFault h, runAckFault, if_neg (by bv_omega), linkBusy_log, he]
  dsimp only
  rw [if_pos rfl]
  exact congrArg _ (answerStatus_linkBusy
    (s := { s with log := { s.log with entries := rest, dropped := droppedAfter clear s.log } }) (resting_of_linkReady h) .ok tag)

/-- Another number than the oldest entry's is STALE, and the clear flag is not followed (R179). -/
theorem exec_ackFault_stale {seq : BitVec 16} (hseq : e.seq ≠ seq) :
    exec (.ackFault tag seq clear) s = .next (s.answering 0x06#8 tag [] false) := by
  rw [exec_ackFault h, runAckFault, if_neg (by bv_omega), linkBusy_log, he]
  dsimp only
  rw [if_neg hseq]
  exact congrArg _ (answerStatus_linkBusy (resting_of_linkReady h) .stale tag)

end

/-- ALERT tells whether the log has an entry left (R157). -/
theorem alertOutput_iff {s : State} : alertOutput s = true ↔ s.log.entries ≠ [] := by simp [alertOutput]

/-- Settles O46: the flag, the empty log, and the oldest entry's number against the one given. -/
theorem ackFaultRemovesTheNamedEntry : Obligations.AckFaultRemovesTheNamedEntry := by
  refine fun s tag clear seq hready => ⟨exec_ackFault_range hready tag seq, fun hc =>
    ⟨exec_ackFault_empty hready tag hc seq, fun e rest he => ⟨?_, ?_, exec_ackFault_stale hready tag hc he⟩⟩⟩
  · rintro rfl
    exact exec_ackFault_oldest hready tag hc he
  · rintro rfl t ht
    rw [exec_ackFault_oldest hready tag hc he] at ht
    obtain rfl := Host.Outcome.next.inj ht
    exact alertOutput_iff

end Sys2Proof.Machine
end
section
/-! PROOF. What a law of one state needs to be kept by every step: the parts that a step is made of, each of which keeps the law, and from
them the steps of the sequencer, the command unit, the link and the port. The three laws that look at the lines share it (R18 to R20, R33,
R42, R148). -/

namespace Sys2Proof.Machine

set_option Elab.async false

/-! ### The parts of a step -/

/-- `t` leaves alone what the laws look at, but the port may have answered and pending recovery jobs may have gone. -/
structure State.framed (s t : State) : Prop where
  lines : t.lines = s.lines
  ageList : t.ageList = s.ageList
  commitQueue : t.commitQueue = s.commitQueue
  regions : t.regions = s.regions
  settings : t.settings = s.settings
  frontEnd : t.frontEnd = s.frontEnd
  port : t.port = s.port ∨ t.port = .idle
  pending : s.nothingPending → t.nothingPending

theorem framed_of_eq {s t : State} (hl : t.lines = s.lines := by simp) (ha : t.ageList = s.ageList := by simp)
    (hc : t.commitQueue = s.commitQueue := by simp) (hr : t.regions = s.regions := by simp)
    (hs : t.settings = s.settings := by simp) (hf : t.frontEnd = s.frontEnd := by simp)
    (hp : t.port = s.port ∨ t.port = .idle := by simp) (hq : s.nothingPending → t.nothingPending := by simp [State.nothingPending]) :
    s.framed t := ⟨hl, ha, hc, hr, hs, hf, hp, hq⟩

theorem framed_refl (s : State) : s.framed s := framed_of_eq

/-- The stage of a job is one of its kind (R41). -/
def Job.fits (j : Job) : Prop := j.stage.belongsTo j.kind = true

/-- `j'` is job `j` at a later step, with the same lines and sector: in a stage of its kind, and holding lines where `j` did, if `j`
was in a stage of its own. -/
structure Job.leadsTo (j j' : Job) : Prop where
  head : j'.head = j.head
  members : j'.members = j.members
  sector : j'.sector = j.sector
  fits : j.fits → j'.fits ∧ (j.holdsLines = true → j'.holdsLines = true)

/-- A law that each part of a step keeps: `law` between steps, `mid s j` with job `j` in hand, `bare` once no job holds a line. -/
structure StepLaw (law bare : State → Prop) (mid : State → Job → Prop) : Prop where
  frame {s t : State} : law s → s.framed t → t.job = s.job → law t
  reset (s : State) (cause : ResetCause) (left : PulseResidue) : law (partReset s cause left)
  -- a job's steps and its end
  running {s : State} {j : Job} : law s → s.job = some j → mid s j
  resting {s : State} {j : Job} : mid s j → s.job = some j → law s
  moves {s t : State} {j j' : Job} : mid s j → j.leadsTo j' → s.framed t → mid t j'
  fills {s : State} {j : Job} (i : LineNo) (image : Page) : mid s j → mid (fillLine s i image) j
  absorbs {s : State} {j : Job} {k : Fin 16} : mid s j → j.stage = .load k →
    mid ((linesToAbsorb s j.sector).foldl takeLine s) { j with members := j.members ++ linesToAbsorb s j.sector }
  retires {s : State} {j : Job} : mid s j → bare (handBackRetired s (jobLines j))
  fails {s : State} {j : Job} : mid s j → bare (handBackFailed s (jobLines j))
  closes {s : State} {j : Job} : mid s j → (j.fits → j.holdsLines = false) → bare s
  bareFrame {s t : State} : bare s → s.framed t → bare t
  cascades {s : State} (sec : SectorNo) : bare s → bare (entryCascade s sec)
  begins {s : State} {j : Job} : bare s → j.fits → mid s j
  rests {s : State} : bare s → s.job = none → law s
  scans {s : State} : law s → s.frontEnd = .starting → s.job = none → bare s
  -- the staging buffer, the port and the job choice
  seals {s : State} : law s → law (sealAll s)
  ages {s : State} : law s → law (ageLines s)
  retries {s : State} (p : PageNo) : law s → s.frontEnd = .ready → law (retryLines s p)
  discards {s : State} (p : PageNo) : law s → law (discardLines s p)
  retakes {s : State} : law s → law (retakeHeldWrite s)
  answers {s : State} : law s → law (answerThrough s)
  takes {s : State} (t : Transaction) : law s → s.frontEnd ≠ .inReset → law (takeTransaction s t)
  resumes {s : State} : law s → law (startHoldResume s)
  chooses {s : State} (test : Choice → Bool) : law s → law (chooseIf s test)
  -- front-end control and the tables
  releases {s : State} : law s → s.frontEnd = .inReset → law { s with frontEnd := .starting }
  drains {s : State} : law s → law (enterDraining s)
  returns {s : State} : law s → law { s with frontEnd := .ready }
  tests {s : State} : law s → law (drainTest s)
  requests {s : State} (q : PerBank QuarantineRecord) : law s → s.frontEnd = .ready → law { s with quarantine := q }
  setsRegion {s : State} (n : Fin 8) {r : Region} : law s → r.inRange → law { s with regions := s.regions.set n r }
  setsSettings {s : State} {c : Settings} {field value : Byte} : law s → withSetting s.settings field value = some c →
    law { s with settings := c }

/-! ### The stages a job goes through -/

theorem leadsTo_of_fits {j j' : Job} (hf : j.fits → j'.fits ∧ (j.holdsLines = true → j'.holdsLines = true))
    (hh : j'.head = j.head := by rfl) (hm : j'.members = j.members := by rfl) (hs : j'.sector = j.sector := by rfl) :
    j.leadsTo j' := ⟨hh, hm, hs, hf⟩

/-- A job that stays in its stage. -/
theorem leadsTo_of_stage {j j' : Job} (hst : j'.stage = j.stage := by rfl) (hk : j'.kind = j.kind := by rfl)
    (hh : j'.head = j.head := by rfl) (hm : j'.members = j.members := by rfl) (hs : j'.sector = j.sector := by rfl) :
    j.leadsTo j' := by
  refine leadsTo_of_fits ?_ hh hm hs
  unfold Job.fits Job.holdsLines
  rw [hst, hk]
  exact fun h => ⟨h, id⟩

/-- A rewrite that goes on to a stage in which it holds its lines. -/
theorem leadsTo_of_rewrite {j j' : Job} (hk : j.fits → j'.kind = .rewrite)
    (hst : j'.stage.belongsTo .rewrite = true ∧ j'.stage ≠ .close ∧ j'.stage ≠ .closeErase) (hh : j'.head = j.head := by rfl)
    (hm : j'.members = j.members := by rfl) (hs : j'.sector = j.sector := by rfl) : j.leadsTo j' := by
  refine leadsTo_of_fits (fun hf => ?_) hh hm hs
  obtain ⟨hb, hc, he⟩ := hst
  unfold Job.fits Job.holdsLines
  rw [hk hf]
  exact ⟨hb, fun _ => by simp [hc, he]⟩

/-- A job that goes on to a stage of its kind, holding its lines if it is a COMMIT or a rewrite. -/
theorem leadsTo_of_kind {j j' : Job} (hk : j'.kind = j.kind) (hb : j.fits → j'.stage.belongsTo j.kind = true)
    (hc : j.fits → j.holdsLines = true → j'.stage ≠ .close ∧ j'.stage ≠ .closeErase) (hh : j'.head = j.head := by rfl)
    (hm : j'.members = j.members := by rfl) (hs : j'.sector = j.sector := by rfl) : j.leadsTo j' := by
  refine leadsTo_of_fits (fun hf => ⟨?_, fun hl => ?_⟩) hh hm hs
  · unfold Job.fits
    rw [hk]
    exact hb hf
  · obtain ⟨hclose, herase⟩ := hc hf hl
    unfold Job.holdsLines at hl ⊢
    rw [hk]
    simp only [Bool.and_eq_true] at hl ⊢
    exact ⟨⟨hl.1.1, by simp [hclose]⟩, by simp [herase]⟩

end Sys2Proof.Machine
end

section
/-! PROOF. A law that each part of a step keeps is kept by every step: the walk through the sequencer, the command unit, the link and the
port, once for all such laws. -/

namespace Sys2Proof.Machine

set_option Elab.async false

/-- A record that comes to name a sector has no pending job (R104). -/
theorem setQuarantine_framed (s : State) (sec : SectorNo) (g : Ground) : s.framed (setQuarantine s sec g) := by
  refine framed_of_eq (hq := ?_)
  unfold setQuarantine State.nothingPending
  cases bankOf sec <;> simp +contextual [PerBank.set]

theorem clearQuarantine_framed (s : State) (sec : SectorNo) : s.framed (clearQuarantine s sec) := by
  refine framed_of_eq (hq := ?_)
  unfold clearQuarantine State.nothingPending
  cases bankOf sec <;> simp +contextual [PerBank.set]

/-- A test that every choice passes leaves the job choice as it is (R43). -/
theorem chooseIf_true (s : State) : chooseIf s (fun _ => true) = chooseJob s := by
  unfold chooseIf chooseJob
  cases nextJob s with
  | none => rfl
  | some c => rfl

section Walk

variable {law bare : State → Prop} {mid : State → Job → Prop} (K : StepLaw law bare mid)
include K

/-! ### The three forms of the law -/

theorem law_of_frame {s t : State} (h : law s) (hf : s.framed t := by exact framed_of_eq)
    (hj : t.job = s.job := by simp) : law t := K.frame h hf hj

theorem bare_of_frame {s t : State} (h : bare s) (hf : s.framed t := by exact framed_of_eq) : bare t := K.bareFrame h hf

/-- The job runs on, at a later step. -/
theorem law_of_leadsTo {s t : State} {j j' : Job} (h : mid s j) (hj : t.job = some j') (hl : j.leadsTo j')
    (hf : s.framed t := by exact framed_of_eq) : law t := K.resting (K.moves h hl hf) hj

theorem law_of_bare_of_no_job {s : State} (h : bare s) (hj : s.job = none) : law s := K.rests h hj

/-- A job that begins once no job holds a line. -/
theorem law_of_begins {s t : State} {j : Job} (h : bare s) (hj : t.job = some j) (hfit : j.fits)
    (hf : s.framed t := by exact framed_of_eq) : law t := K.resting (K.begins (K.bareFrame h hf) hfit) hj

/-! ### The job choice, and the ends of jobs and of start-up -/

theorem chooseJob_law {s : State} (h : law s) : law (chooseJob s) :=
  chooseIf_true s ▸ K.chooses (fun _ => true) h

theorem endJob_law {s : State} (h : bare s) : law (endJob s) := by
  have hended : law { s with job := none, op := none, buffer := .empty } := K.rests (bare_of_frame K h) rfl
  unfold endJob
  exact law_of_frame K (K.tests (chooseJob_law K hended))

theorem leaveStarting_law {s : State} (h : law s) : law (leaveStarting s) := by
  unfold leaveStarting
  split
  · exact K.drains h
  · exact K.returns h

theorem endStartup_law {s : State} (h : law s) : law (endStartup s) := by
  have hleft : law (leaveStarting { s with scan := .off }) := leaveStarting_law K (law_of_frame K h)
  exact chooseJob_law K (K.resumes (law_of_frame K hleft))

/-! ### The start-up scan -/

theorem startReplay_law {s : State} (h : bare s) (j : Journal) (sec : SectorNo) : law (startReplay s j sec) :=
  law_of_begins K h rfl rfl

theorem scanFourthStep_law {s : State} (h : bare s) (hj : s.job = none) : law (scanFourthStep s) := by
  unfold scanFourthStep
  split
  · exact startReplay_law K h _ _
  · exact endStartup_law K (law_of_frame K (K.rests h hj))

theorem scanThirdStep_law {s : State} (h : bare s) (hj : s.job = none) : law (scanThirdStep s) := by
  unfold scanThirdStep
  split
  · exact startReplay_law K h _ _
  · exact scanFourthStep_law K h hj

theorem classifyAs_law {s : State} (h : bare s) (hj : s.job = none) (j : Journal) (v : JournalState) :
    law (classifyAs s j v) := by
  cases j with
  | j0 => exact K.rests (bare_of_frame K h (framed_of_eq rfl rfl rfl rfl rfl rfl (Or.inl rfl) id)) hj
  | j1 => exact scanThirdStep_law K (bare_of_frame K h) hj

theorem classifyCorrupt_law {s : State} (h : bare s) (hj : s.job = none) (j : Journal) (target : BitVec 16) :
    law (classifyCorrupt s j target) :=
  classifyAs_law K (s := appendFault s (.journalCorrupt j target)) (bare_of_frame K h) hj j _

theorem scanReadCopy_law {s : State} (h : bare s) (hj : s.job = none) (j : Journal) (target : SectorNo) (check : BitVec 16)
    (k : Fin 16) (sum : BitVec 16) : law (scanReadCopy s j target check k sum) := by
  unfold scanReadCopy
  exact K.rests (bare_of_frame K h) hj

theorem scanHeader_law {s : State} (h : bare s) (hj : s.job = none) (j : Journal) (header : Page) :
    law (scanHeader s j header) := by
  unfold scanHeader
  split
  · exact classifyAs_law K h hj j _
  · split
    · exact classifyAs_law K h hj j _
    · split
      · exact classifyCorrupt_law K h hj j _
      · exact scanReadCopy_law K h hj _ _ _ _ _

theorem scanCopy_law {s : State} (h : bare s) (hj : s.job = none) (j : Journal) (target : SectorNo) (check : BitVec 16)
    (k : Fin 16) (sum : BitVec 16) (page : Page) : law (scanCopy s j target check k sum page) := by
  unfold scanCopy
  split
  · exact scanReadCopy_law K h hj _ _ _ _ _
  · split
    · exact classifyAs_law K h hj j _
    · exact classifyCorrupt_law K h hj j _

theorem scanBlank_law {s : State} (h : law s) (hj : s.job = none) (blank : Bool) : law (scanBlank s blank) := by
  unfold scanBlank
  split
  · next j hs _ =>
    have hb := K.scans h hs hj
    split
    · exact classifyAs_law K hb hj j _
    · exact K.rests (bare_of_frame K hb) hj
  · exact h

theorem scanRead_law {s : State} (h : law s) (hj : s.job = none) (page : Page) : law (scanRead s page) := by
  unfold scanRead
  split
  · next hs _ => exact scanHeader_law K (K.scans h hs hj) hj _ _
  · next hs _ => exact scanCopy_law K (K.scans h hs hj) hj _ _ _ _ _ _
  · exact h

/-! ### The ends of jobs -/

theorem endReplay_law {s : State} (h : bare s) : law (endReplay s) := by
  unfold endReplay
  dsimp only
  split
  · exact scanFourthStep_law K (bare_of_frame K h) rfl
  · exact endStartup_law K (K.rests (bare_of_frame K h) rfl)

theorem commitSucceeds_law {s : State} {j : Job} (h : mid s j) : law (commitSucceeds s j) := endJob_law K (K.retires h)

theorem commitFails_law {s : State} {j : Job} (h : mid s j) (page : PageNo) (cause : LoopFailure) (pulses : Nat) :
    law (commitFails s j page cause pulses) := endJob_law K (bare_of_frame K (K.fails h))

theorem journalEraseFails_law {s : State} {j : Job} (h : mid s j) : law (journalEraseFails s j) :=
  endJob_law K (bare_of_frame K (K.fails h))

theorem journalIsHeld_law {s : State} {j : Job} (h : mid s j) (page : PageNo) : law (journalIsHeld s j page) :=
  endJob_law K (bare_of_frame K (K.fails h))

theorem copyStepFails_law {s : State} {j : Job} (h : mid s j) (step : FailedStep) (after : JournalState) :
    law (copyStepFails s j step after) := endJob_law K (bare_of_frame K (K.fails h))

/-! ### The kind of a job, by its stage -/

omit K in
/-- A job in a stage that belongs to rewrites alone is a rewrite. -/
theorem kind_rewrite_of_fits {j : Job} (hst : ∀ k, j.stage.belongsTo k = (k == .rewrite)) (hf : j.fits) : j.kind = .rewrite := by
  unfold Job.fits at hf
  rw [hst] at hf
  exact eq_of_beq hf

omit K in
/-- A job that neither commits nor rewrites holds no line. -/
theorem not_holdsLines_of_kind {j : Job} (hc : j.kind ≠ .commit) (hr : j.kind ≠ .rewrite) : j.holdsLines = false := by
  simp [Job.holdsLines, hc, hr]

omit K in
/-- A job in its close stages holds no line. -/
theorem not_holdsLines_of_closing {j : Job} (hst : j.stage = .close ∨ j.stage = .closeErase) : j.holdsLines = false := by
  obtain hst | hst := hst <;> simp [Job.holdsLines, hst]

omit K in
/-- A job at its target is not a COMMIT. -/
theorem kind_ne_commit_of_target {j : Job} (hst : j.stage.belongsTo .commit = false) (hf : j.fits) : j.kind ≠ .commit := by
  intro hk
  rw [Job.fits, hk, hst] at hf
  cases hf

/-! ### The ends of rewrites and recovery jobs -/

theorem rewriteTargetFails_law {s : State} {j : Job} (h : mid s j) (step : FaultStep) (pulses : Nat) :
    law (rewriteTargetFails s j step pulses) := by
  have hq : mid (setQuarantine s j.sector .copy) j := K.moves h leadsTo_of_stage (setQuarantine_framed _ _ _)
  exact endJob_law K (bare_of_frame K (K.cascades j.sector (K.retires hq)))

theorem rewriteCloseFails_law {s : State} (h : bare s) (j : Job) (pulses : Nat) : law (rewriteCloseFails s j pulses) := by
  have hq : bare (setQuarantine s j.sector .cells) := bare_of_frame K h (setQuarantine_framed _ _ _)
  exact endJob_law K (bare_of_frame K (K.cascades j.sector hq))

theorem recoveryTargetFails_law {s : State} (h : bare s) (j : Job) (step : FaultStep) (pulses : Nat) :
    law (recoveryTargetFails s j step pulses) := by
  have hq : bare (setQuarantine s j.sector .copy) := bare_of_frame K h (setQuarantine_framed _ _ _)
  unfold recoveryTargetFails
  split
  · exact endReplay_law K (bare_of_frame K hq)
  · exact endJob_law K (bare_of_frame K hq)

theorem targetFails_law {s : State} {j : Job} (h : mid s j) (hc : j.fits → j.kind ≠ .commit) (step : FaultStep)
    (pulses : Nat) : law (targetFails s j step pulses) := by
  unfold targetFails
  split
  · exact rewriteTargetFails_law K h step pulses
  · next hr => exact recoveryTargetFails_law K (K.closes h fun hf => not_holdsLines_of_kind (hc hf) hr) j step pulses

theorem closeStepSucceeds_law {s : State} (h : bare s) (j : Job) (after : JournalState) : law (closeStepSucceeds s j after) := by
  have hset : bare (setJournal s (journalFor j.sector) after) := bare_of_frame K h
  have hclear := bare_of_frame K hset (clearQuarantine_framed _ j.sector)
  unfold closeStepSucceeds
  dsimp only
  split
  · exact endReplay_law K (bare_of_frame K hclear)
  · exact endJob_law K (bare_of_frame K hclear)
  · exact endJob_law K hclear

theorem closeStepFails_law {s : State} (h : bare s) (j : Job) (pulses : Nat) : law (closeStepFails s j pulses) := by
  have hq : bare (setQuarantine s j.sector .cells) := bare_of_frame K h (setQuarantine_framed _ _ _)
  unfold closeStepFails
  split
  · exact endReplay_law K (bare_of_frame K hq)
  · exact endJob_law K (bare_of_frame K hq)

theorem closeHeaderRead_law {s : State} {j : Job} (h : mid s j) (hst : j.stage = .close) (header : Page) :
    law (closeHeaderRead s j header) := by
  unfold closeHeaderRead
  split
  · exact closeStepSucceeds_law K (K.closes h fun _ => not_holdsLines_of_closing (Or.inl hst)) j _
  · exact law_of_leadsTo K h rfl leadsTo_of_stage

/-! ### The journal, the copy and the target of a rewrite -/

theorem startLoad_law {s : State} {j : Job} (h : mid s j) (hk : j.fits → j.kind = .rewrite) : law (startLoad s j) :=
  law_of_leadsTo K h rfl (leadsTo_of_rewrite hk ⟨rfl, by simp, by simp⟩)

theorem startErase_law {s : State} {j : Job} (h : mid s j) (g : Target) : law (startErase s j g) :=
  law_of_leadsTo K h rfl leadsTo_of_stage

theorem journalCheck_law {s : State} {j : Job} (h : mid s j) (hk : j.fits → j.kind = .rewrite) (page : PageNo) :
    law (journalCheck s j page) := by
  unfold journalCheck
  split
  · exact startLoad_law K h hk
  · exact startErase_law K h _
  · split
    · exact law_of_leadsTo K h rfl leadsTo_of_stage
    · exact journalIsHeld_law K h page
  · exact law_of_leadsTo K h rfl leadsTo_of_stage

theorem copyFrom_law {s : State} {j : Job} (h : mid s j) (hk : j.fits → j.kind = .rewrite) (img : Image) (k : Nat) :
    law (copyFrom s j img k) := by
  unfold copyFrom
  split
  · exact law_of_leadsTo K h rfl (leadsTo_of_rewrite hk ⟨rfl, by simp, by simp⟩)
  · exact law_of_leadsTo K h rfl (leadsTo_of_rewrite hk ⟨rfl, by simp, by simp⟩)

theorem merge_law {s : State} {j : Job} {k : Fin 16} (h : mid s j) (hst : j.stage = .load k) (img : Image) :
    law (merge s j img) := by
  unfold merge
  refine copyFrom_law K ?_ (kind_rewrite_of_fits fun kind => ?_) _ _
  · exact K.moves (K.absorbs h hst) leadsTo_of_stage framed_of_eq
  · exact hst ▸ (rfl : (Stage.load k).belongsTo kind = (kind == .rewrite))

theorem loadNext_law {s : State} {j : Job} {k : Fin 16} (h : law s) (hm : mid s j) (hst : j.stage = .load k) (page : Page) :
    law (loadNext s j k page) := by
  have hk : j.fits → j.kind = .rewrite := kind_rewrite_of_fits fun _ => by rw [hst]; rfl
  unfold loadNext
  split
  · split
    · exact law_of_leadsTo K hm rfl (leadsTo_of_rewrite hk ⟨rfl, by simp, by simp⟩)
    · exact merge_law K hm hst _
  · exact h

theorem startTargetErase_law {s : State} {j : Job} (h : mid s j) (hb : j.fits → Stage.targetErase.belongsTo j.kind = true) :
    law (startTargetErase s j) :=
  law_of_leadsTo K h rfl (leadsTo_of_kind rfl hb fun _ _ => ⟨by simp, by simp⟩)

theorem loadCopyNext_law {s : State} {j : Job} {k : Fin 16} (h : law s) (hm : mid s j) (hst : j.stage = .loadCopy k)
    (page : Page) : law (loadCopyNext s j k page) := by
  have hb : j.fits → (j.kind == .restore || j.kind == .replay) = true := fun hf => by rw [Job.fits, hst] at hf; exact hf
  unfold loadCopyNext
  split
  · split
    · exact law_of_leadsTo K hm rfl (leadsTo_of_kind rfl hb fun _ _ => ⟨by simp, by simp⟩)
    · refine startTargetErase_law K (K.moves hm leadsTo_of_stage framed_of_eq) fun hf => ?_
      simp only [Stage.belongsTo, Bool.or_assoc, hb hf, Bool.or_true]
  · exact h

/-- RETIRE: the lines go back, and the rewrite closes without them (R79). -/
theorem retireAndClose_law {s : State} {j : Job} (h : mid s j) (hk : j.kind = .rewrite) : law (retireAndClose s j) := by
  unfold retireAndClose
  exact law_of_begins K (K.retires h) rfl (by simp [Job.fits, Stage.belongsTo, hk])

theorem targetProgrammed_law {s : State} {j : Job} (h : mid s j) (hc : j.fits → j.kind ≠ .commit) :
    law (targetProgrammed s j) := by
  unfold targetProgrammed
  split
  · next hk => exact retireAndClose_law K h hk
  · next hr =>
    refine law_of_leadsTo K h rfl (leadsTo_of_fits fun hf => ⟨?_, fun hl => ?_⟩)
    · simp [Job.fits, Stage.belongsTo, hc hf]
    · rw [not_holdsLines_of_kind (hc hf) hr] at hl
      cases hl

omit K in
/-- A job at its target goes on in TARGET_PROGRAM. -/
theorem leadsTo_targetProgram {j : Job} (n : Fin 16) (l : Option Loop) (hb : j.fits → Stage.targetErase.belongsTo j.kind = true) :
    j.leadsTo { j with stage := .targetProgram n, loop := l } :=
  leadsTo_of_kind rfl hb fun _ _ => ⟨by simp, by simp⟩

theorem programFrom_law {s : State} {j : Job} (h : law s) (hm : mid s j)
    (hb : j.fits → Stage.targetErase.belongsTo j.kind = true) (k : Nat) : law (programFrom s j k) := by
  have hc : j.fits → j.kind ≠ .commit := fun hf hk => by
    have := hb hf
    rw [hk] at this
    cases this
  unfold programFrom
  split
  · split
    · exact law_of_leadsTo K hm rfl (leadsTo_targetProgram _ _ hb)
    · exact targetProgrammed_law K hm hc
  · exact h

/-! ### The outcomes of the loops, by stage -/

theorem programSucceeds_law {s : State} {j : Job} (h : law s) (hm : mid s j) : law (programSucceeds s j) := by
  unfold programSucceeds
  split
  · exact commitSucceeds_law K hm
  · next hst =>
    split
    · exact copyFrom_law K hm (kind_rewrite_of_fits fun _ => by rw [hst]; rfl) _ _
    · exact h
  · next hst =>
    have hk : j.fits → j.kind = .rewrite := kind_rewrite_of_fits fun _ => by rw [hst]; rfl
    exact law_of_leadsTo K hm rfl (leadsTo_of_rewrite hk ⟨rfl, by simp, by simp⟩)
  · next hst =>
    have hk : j.fits → j.kind = .rewrite := kind_rewrite_of_fits fun _ => by rw [hst]; rfl
    have hset := K.moves (t := setJournal s (journalFor j.sector) (.openFor j.sector)) hm leadsTo_of_stage framed_of_eq
    exact startTargetErase_law K hset fun hf => by rw [hk hf]; rfl
  · next hst => exact programFrom_law K h hm (fun hf => by rw [Job.fits, hst] at hf; exact hf) _
  · next hst =>
    have hb : bare s := K.closes hm fun _ => not_holdsLines_of_closing (Or.inl hst)
    split
    · exact endJob_law K (bare_of_frame K hb)
    · exact closeStepSucceeds_law K hb j _
  · exact h

theorem programFails_law {s : State} {j : Job} (h : law s) (hm : mid s j) (cause : LoopFailure) (pulses : Nat) :
    law (programFails s j cause pulses) := by
  unfold programFails
  split
  · split
    · exact commitFails_law K hm _ cause pulses
    · exact h
  · exact copyStepFails_law K hm _ _
  · exact copyStepFails_law K hm _ _
  · next hst =>
    have hk : j.fits → j.kind = .rewrite := kind_rewrite_of_fits fun _ => by rw [hst]; rfl
    exact law_of_leadsTo K hm rfl (leadsTo_of_rewrite hk ⟨rfl, by simp, by simp⟩)
  · next hst => exact targetFails_law K hm (kind_ne_commit_of_target (by rw [hst]; rfl)) _ pulses
  · next hst =>
    have hb : j.fits → Stage.closeErase.belongsTo j.kind = true := fun hf => by rw [Job.fits, hst] at hf; exact hf
    have hl : j.holdsLines = false := not_holdsLines_of_closing (Or.inl hst)
    exact law_of_leadsTo K hm rfl (leadsTo_of_kind rfl hb fun _ hh => absurd hh (by simp [hl]))
  · exact h

theorem eraseSucceeds_law {s : State} {j : Job} (h : law s) (hm : mid s j) : law (eraseSucceeds s j) := by
  unfold eraseSucceeds
  split
  · next hst =>
    have hset := K.moves (t := setJournal s (journalFor j.sector) .blank) hm leadsTo_of_stage framed_of_eq
    exact startLoad_law K hset (kind_rewrite_of_fits fun _ => by rw [hst]; rfl)
  · exact copyStepFails_law K hm _ _
  · next hst =>
    have hb : j.fits → Stage.targetErase.belongsTo j.kind = true := fun hf => by rw [Job.fits, hst] at hf; exact hf
    exact programFrom_law K h (K.moves hm (leadsTo_targetProgram 0 j.loop hb) (framed_refl s)) id _
  · next hst =>
    have hb : bare s := K.closes hm fun _ => not_holdsLines_of_closing (Or.inr hst)
    split
    · exact endJob_law K (bare_of_frame K hb)
    · exact closeStepSucceeds_law K hb j _
  · exact h

theorem eraseFails_law {s : State} {j : Job} (h : law s) (hm : mid s j) (pulses : Nat) : law (eraseFails s j pulses) := by
  unfold eraseFails
  split
  · exact journalEraseFails_law K hm
  · exact copyStepFails_law K hm _ _
  · next hst => exact targetFails_law K hm (kind_ne_commit_of_target (by rw [hst]; rfl)) _ pulses
  · next hst =>
    have hb : bare s := K.closes hm fun _ => not_holdsLines_of_closing (Or.inr hst)
    split
    · exact rewriteCloseFails_law K hb j pulses
    · exact closeStepFails_law K hb j pulses
  · exact h

/-! ### Completions -/

theorem preReadDone_law {s : State} {j : Job} (h : law s) (hm : mid s j) (hst : j.stage = .preRead) (page : Page) :
    law (preReadDone s j page) := by
  have hb : j.fits → Stage.program.belongsTo j.kind = true := fun hf => by rw [Job.fits, hst] at hf; exact hf
  unfold preReadDone
  split
  · next i p hi hp =>
    have hf := K.fills i (overlay s.lines[i].staged page) hm
    dsimp only
    split
    · exact commitSucceeds_law K hf
    · split
      · refine journalCheck_law K (K.moves hf (leadsTo_of_rewrite (fun _ => rfl) ⟨rfl, by simp, by simp⟩) (framed_refl _)) ?_ p
        exact fun _ => rfl
      · exact law_of_leadsTo K hf rfl (leadsTo_of_kind rfl hb fun _ _ => ⟨by simp, by simp⟩)
  · exact h

theorem verifyDone_law {s : State} {j : Job} (h : law s) (hm : mid s j) (cp : CellPage) (image : Page) (pulses : Nat)
    (read : Page) : law (verifyDone s j cp image pulses read) := by
  have hend : mid s { j with loop := none } := K.moves hm leadsTo_of_stage (framed_refl s)
  unfold verifyDone
  split
  · exact programSucceeds_law K h hend
  · exact law_of_leadsTo K hm rfl leadsTo_of_stage
  · exact programFails_law K h hend _ _

theorem jobReads_law {s : State} {j : Job} (h : law s) (hm : mid s j) (page : Page) : law (jobReads s j page) := by
  unfold jobReads
  split
  · exact verifyDone_law K h hm _ _ _ _
  · exact h
  · split
    · next hst => exact preReadDone_law K h hm hst page
    · next hst => exact loadNext_law K h hm hst page
    · next hst => exact loadCopyNext_law K h hm hst page
    · next hst => exact closeHeaderRead_law K hm hst page
    · exact h

theorem jobBlankCheck_law {s : State} {j : Job} (h : law s) (hm : mid s j) (blank : Bool) : law (jobBlankCheck s j blank) := by
  have hend : mid s { j with loop := none } := K.moves hm leadsTo_of_stage (framed_refl s)
  unfold jobBlankCheck
  split
  · split
    · exact eraseSucceeds_law K h hend
    · split
      · exact law_of_leadsTo K hm rfl leadsTo_of_stage
      · exact eraseFails_law K h hend _
  · exact h

theorem removeOp_law {s : State} (h : law s) : law (removeOp s) := law_of_frame K h

theorem readPageDelivered_law {s : State} (h : law s) (cp : CellPage) : law (readPageDelivered s cp) := by
  have hr := removeOp_law K h
  unfold readPageDelivered
  split
  · next j hj => exact jobReads_law K hr (K.running hr hj) _
  · next hj => exact scanRead_law K hr hj _

theorem blankCheckDelivered_law {s : State} (h : law s) (g : Target) : law (blankCheckDelivered s g) := by
  have hr := removeOp_law K h
  unfold blankCheckDelivered
  split
  · next j hj => exact jobBlankCheck_law K hr (K.running hr hj) _
  · next hj => exact scanBlank_law K hr hj _

theorem pulseDelivered_law {s : State} (h : law s) : law (pulseDelivered s) := by
  have hr := removeOp_law K h
  unfold pulseDelivered
  split
  · split
    · exact law_of_frame K hr
    · exact law_of_frame K hr
    · exact hr
  · exact hr

/-! ### The port and front-end control -/

theorem evaluateHeldRead_law {s : State} (h : law s) (b : Bank) : law (evaluateHeldRead b s) := by
  refine law_of_frame K h (framed_of_eq (hp := ?_))
  unfold evaluateHeldRead
  repeat' split
  all_goals simp [serveRead, *]

theorem reevaluateHeldRead_law {s : State} (h : law s) : law (reevaluateHeldRead s) := by
  refine law_of_frame K h (framed_of_eq (hp := ?_))
  unfold reevaluateHeldRead
  repeat' split
  all_goals simp [serveRead, *]

theorem holdExpires_law {s : State} (h : law s) : law (holdExpires s) := by
  refine law_of_frame K h (framed_of_eq (hp := ?_))
  unfold holdExpires
  split <;> simp [refuse]

theorem takeNextTransaction_law {s : State} (h : law s) : law (takeNextTransaction s) := by
  unfold takeNextTransaction
  split
  · split
    · exact h
    · next hr => exact chooseJob_law K (K.takes _ (law_of_frame K h) hr)
  · exact h

theorem ageTimerExpires_law {s : State} (h : law s) : law (ageTimerExpires s) := by
  unfold ageTimerExpires
  split
  · exact chooseJob_law K (law_of_frame K (K.ages h))
  · exact h

theorem pwarnRises_law {s : State} (h : law s) : law (pwarnRises s) := by
  unfold pwarnRises
  split
  · exact law_of_frame K h
  · exact chooseJob_law K (K.drains (law_of_frame K h))
  · exact law_of_frame K h

theorem pwarnFalls_law {s : State} (h : law s) : law (pwarnFalls s) := by
  have hlevel : law { s with pwarn := false, pwarnNoted := false } := law_of_frame K h
  unfold pwarnFalls
  split
  · exact law_of_frame K h
  · exact K.returns hlevel
  · exact K.returns hlevel
  · exact hlevel

theorem releaseReset_law {s : State} (h : law s) : law (releaseReset s) := by
  unfold releaseReset
  split
  · next hr =>
    refine takeNextTransaction_law K (law_of_frame K (K.releases h hr) ?_ rfl)
    exact framed_of_eq rfl rfl rfl rfl rfl rfl (Or.inl rfl) id
  · exact h

/-! ### Completions, with the held read -/

theorem readPageCompletes_law {s : State} (h : law s) : law (readPageCompletes s) := by
  unfold readPageCompletes
  split
  · exact evaluateHeldRead_law K (readPageDelivered_law K h _) _
  · exact h

theorem blankCheckCompletes_law {s : State} (h : law s) : law (blankCheckCompletes s) := by
  unfold blankCheckCompletes
  split
  · exact evaluateHeldRead_law K (blankCheckDelivered_law K h _) _
  · exact h

theorem holdExpiresInPhase_law {s : State} (h : law s) : law (holdExpiresInPhase s) := by
  unfold holdExpiresInPhase
  split
  · exact evaluateHeldRead_law K (pulseDelivered_law K h) _
  · exact evaluateHeldRead_law K (pulseDelivered_law K h) _
  · exact h

theorem replayDue_law {s : State} (h : law s) : law (replayDue s) := by
  unfold replayDue
  split
  · next hs hj _ _ =>
    split
    · exact startReplay_law K (K.scans h hs hj) _ _
    · exact h
  · exact h

/-! ### Requests -/

theorem answerStatus_law {s : State} (h : law s) (st : Status) (tag : Byte) : law (answerStatus s st tag) := law_of_frame K h

theorem runFlush_law {s : State} (h : law s) (tag wait : Byte) : law (runFlush s tag wait) := by
  have hs : law (chooseJob (sealAll s)) := chooseJob_law K (K.seals h)
  unfold runFlush
  split
  · exact answerStatus_law K h _ tag
  · split
    · exact answerStatus_law K h _ tag
    · split
      · exact answerStatus_law K hs _ tag
      · exact law_of_frame K hs

theorem runRetryPage_law {s : State} (h : law s) (tag : Byte) (page : BitVec 16) : law (runRetryPage s tag page) := by
  unfold runRetryPage
  split
  · exact answerStatus_law K h _ tag
  · split
    · exact answerStatus_law K h _ tag
    · next hready =>
      split
      · exact answerStatus_law K h _ tag
      · exact answerStatus_law K (chooseJob_law K (K.retries _ h (not_not.1 hready))) _ tag

theorem runDiscardPage_law {s : State} (h : law s) (tag : Byte) (page : BitVec 16) : law (runDiscardPage s tag page) := by
  unfold runDiscardPage
  repeat' split
  · exact answerStatus_law K h _ tag
  · exact answerStatus_law K h _ tag
  · exact answerStatus_law K h _ tag
  · exact answerStatus_law K (chooseJob_law K (K.discards _ h)) _ tag

theorem runRecovery_law {s : State} (h : law s) (tag bank : Byte) (p : PendingJob) : law (runRecovery s tag bank p) := by
  unfold runRecovery
  split
  · exact answerStatus_law K h _ tag
  · split
    · exact answerStatus_law K h _ tag
    · next hready =>
      split
      · exact answerStatus_law K h _ tag
      · split
        · exact answerStatus_law K h _ tag
        · exact answerStatus_law K (chooseJob_law K (K.requests _ h (not_not.1 hready))) _ tag

theorem runSetRegion_law {s : State} (h : law s) (tag n valid : Byte) (base limit : BitVec 16) (kind delay : Byte) :
    law (runSetRegion s tag n valid base limit kind delay) := by
  unfold runSetRegion
  split
  · next hn =>
    split
    · next r hr =>
      obtain ⟨-, -, -, hle, -, hdelay⟩ := regionOfRecord_eq_some_iff.1 hr
      refine answerStatus_law K (K.setsRegion ⟨n.toNat, hn⟩ h ⟨hle, fun d hd => ?_⟩) _ tag
      obtain ⟨-, hnone⟩ | ⟨hlo, hhi, hsome⟩ := hdelay
      · rw [hnone] at hd
        cases hd
      · obtain rfl : delay.toNat = d := Option.some.inj (hsome ▸ hd)
        exact ⟨hlo, hhi⟩
    · exact answerStatus_law K h _ tag
  · exact answerStatus_law K h _ tag

theorem runSetSetting_law {s : State} (h : law s) (tag field value : Byte) : law (runSetSetting s tag field value) := by
  unfold runSetSetting
  split
  · next hc => exact answerStatus_law K (K.setsSettings h hc) _ tag
  · exact answerStatus_law K h _ tag

/-- FLUSH, RETRY_PAGE, DISCARD_PAGE and the recovery requests reach lines, queue or records, SET_REGION and SET_SETTING the tables; the
others touch none. -/
theorem runCommand_law {s : State} (h : law s) (cmd tag : Byte) (args : List Byte) : law (runCommand s cmd tag args) := by
  unfold runCommand
  split
  · repeat' split
    all_goals exact law_of_frame K h
  · repeat' split
    · exact law_of_frame K h
    · exact runFlush_law K h _ _
    · exact runRecovery_law K h _ _ .restore
    · exact runRecovery_law K h _ _ .close
    · exact answerStatus_law K h _ _
  · repeat' split
    · exact runSetSetting_law K h _ _ _
    · exact runRetryPage_law K h _ _
    · exact runDiscardPage_law K h _ _
    · exact answerStatus_law K h _ _
  · split <;> exact law_of_frame K h
  · split
    · exact runSetRegion_law K h _ _ _ _ _ _ _
    · exact answerStatus_law K h _ _
  · exact answerStatus_law K h _ _

theorem executeFrame_law {s : State} (h : law s) (f : Frame) : law (executeFrame s f) := by
  unfold executeFrame
  split
  · exact answerStatus_law K h _ _
  · repeat' split
    · exact answerStatus_law K h _ _
    · exact answerStatus_law K h _ _
    · exact runCommand_law K h _ _ _
    · exact answerStatus_law K h _ _

/-! ### The link -/

theorem completeFrame_law {s : State} (h : law s) (f : Frame) : law (completeFrame s f) := by
  unfold completeFrame
  split
  · exact executeFrame_law K (law_of_frame K h) f
  · exact law_of_frame K h
  · exact law_of_frame K h

theorem joinFrame_law {s : State} (h : law s) (byte : Byte) : law (joinFrame s byte) := by
  unfold joinFrame keepBytes
  split
  · split
    · exact completeFrame_law K (law_of_frame K h) _
    · exact law_of_frame K h
  · exact law_of_frame K h
  · exact h

theorem receiveByte_law {s : State} (h : law s) (byte : Byte) : law (receiveByte s byte) := by
  unfold receiveByte
  split
  · exact joinFrame_law K (s := startBit s) (law_of_frame K h) byte
  · exact h

theorem receiveBytes_law {s : State} (h : law s) (bytes : List Byte) : law (receiveBytes s bytes) := by
  induction bytes generalizing s with
  | nil => exact h
  | cons b bytes ih => exact ih (receiveByte_law K h b)

theorem responseEnds_law {s : State} (h : law s) : law (responseEnds s) := by
  unfold responseEnds linkMovesOn
  split
  · exact law_of_frame K h
  · dsimp only
    split
    · exact executeFrame_law K (law_of_frame K h) _
    · exact law_of_frame K h
  · exact law_of_frame K h

theorem byteComes_law {s : State} (h : law s) (byte : Byte) : law (byteComes s byte) := by
  unfold byteComes
  split
  · split
    · exact law_of_frame K h
    · exact receiveByte_law K h byte
  · exact receiveByte_law K h byte

theorem responseSentComes_law {s : State} (h : law s) : law (responseSentComes s) := by
  unfold responseSentComes
  split
  · split
    · exact law_of_frame K h
    · exact responseEnds_law K h
  · exact responseEnds_law K h

theorem breakFound_law {s : State} (h : law s) : law (breakFound s) := law_of_frame K h

theorem breakComes_law {s : State} (h : law s) : law (breakComes s) := by
  unfold breakComes breakWithRequest
  split
  · split
    · exact executeFrame_law K (breakFound_law K (law_of_frame K h)) _
    · exact breakFound_law K (executeFrame_law K (law_of_frame K h) _)
  · exact breakFound_law K h

/-! ### The commands -/

theorem exec_law {c : Instr} {s t : State} (h : law s) (he : exec c s = .next t) : law t := by
  cases c with
  | powerOn left =>
    obtain rfl := Host.Outcome.next.inj he
    exact K.reset _ _ _
  | resetPin left =>
    obtain rfl := Host.Outcome.next.inj he
    unfold resetPinFalls
    split
    · exact h
    · exact K.reset _ _ _
  | linkCommandReset left =>
    obtain rfl := Host.Outcome.next.inj he
    unfold takeDueReset
    split
    · exact K.reset _ _ _
    · exact h
  | resetRelease =>
    obtain rfl := Host.Outcome.next.inj he
    exact releaseReset_law K h
  | pwarnAsserted =>
    obtain rfl := Host.Outcome.next.inj he
    exact pwarnRises_law K h
  | pwarnDeasserted =>
    obtain rfl := Host.Outcome.next.inj he
    exact pwarnFalls_law K h
  | portTransaction t =>
    obtain rfl := Host.Outcome.next.inj he
    exact takeNextTransaction_law K (law_of_frame K h)
  | holdTimerExpiry =>
    obtain rfl := Host.Outcome.next.inj he
    exact holdExpires_law K h
  | startHoldResume =>
    obtain rfl := Host.Outcome.next.inj he
    exact chooseJob_law K (K.resumes h)
  | heldWriteRetaken =>
    obtain rfl := Host.Outcome.next.inj he
    exact chooseJob_law K (K.retakes h)
  | heldReadEvaluated =>
    obtain rfl := Host.Outcome.next.inj he
    exact reevaluateHeldRead_law K h
  | throughAnswer =>
    obtain rfl := Host.Outcome.next.inj he
    exact K.answers h
  | ageTimerExpiry =>
    obtain rfl := Host.Outcome.next.inj he
    exact ageTimerExpires_law K h
  | holdExpiry =>
    obtain rfl := Host.Outcome.next.inj he
    exact holdExpiresInPhase_law K h
  | readPageComplete =>
    obtain rfl := Host.Outcome.next.inj he
    exact readPageCompletes_law K h
  | blankCheckComplete =>
    obtain rfl := Host.Outcome.next.inj he
    exact blankCheckCompletes_law K h
  | commit | restore | closeJob =>
    obtain rfl := Host.Outcome.next.inj he
    exact K.chooses _ h
  | replay =>
    obtain rfl := Host.Outcome.next.inj he
    exact replayDue_law K h
  | endOfStartup =>
    obtain rfl := Host.Outcome.next.inj he
    split
    · exact endStartup_law K h
    · exact h
  | drained =>
    obtain rfl := Host.Outcome.next.inj he
    exact K.tests h
  | byteReceived byte =>
    obtain rfl := Host.Outcome.next.inj he
    exact byteComes_law K h byte
  | responseSent =>
    obtain rfl := Host.Outcome.next.inj he
    exact responseSentComes_law K h
  | breakRecognised =>
    obtain rfl := Host.Outcome.next.inj he
    exact breakComes_law K h
  | lengthFaultFrame | badCommand | ident | status | getRegion | setRegion | getSettings | setSetting | flush | readFault
  | ackFault | retryPage | discardPage | restoreSector | dropJournal | resetPart =>
    obtain rfl := Host.Outcome.next.inj he
    exact receiveBytes_law K h _
  | _ =>
    obtain rfl := Host.Outcome.next.inj he
    exact law_of_frame K h

/-- A law that each part of a step keeps is kept by every step. -/
theorem step_law {s t : State} (h : law s) (hstep : step s = .next t) : law t := by
  obtain ⟨-, rfl⟩ | ⟨c, rest, -, he⟩ := step_cases hstep
  · exact takeNextTransaction_law K h
  · exact exec_law K (s := { s with pending := rest }) (law_of_frame K h) he

end Walk
end Sys2Proof.Machine
end

section
/-! PROOF. The settings and the region table stay in range, and no OPEN line grows older than 14: at every age-timer expiry a line whose
commit delay, at most 15, is reached is sealed (R32, R33, R116, R176). -/

namespace Sys2Proof.Machine

set_option Elab.async false

/-- The settings and the regions are in range, and the OPEN lines are young. -/
def State.young (s : State) : Prop := s.tablesLaw ∧ s.agesLaw

/-! ### The operations on lines -/

/-- A step that leaves the tables, and whose OPEN lines were OPEN at the same age or are young. -/
theorem young_of_lines {s t : State} (h : s.young)
    (hl : ∀ k : LineNo, t.lines[k].state = .open →
      (s.lines[k].state = .open ∧ t.lines[k].age = s.lines[k].age) ∨ t.lines[k].age ≤ 14)
    (hr : t.regions = s.regions := by simp) (hs : t.settings = s.settings := by simp) : t.young := by
  obtain ⟨htables, hages⟩ := h
  refine ⟨?_, fun k hk => ?_⟩
  · unfold State.tablesLaw
    rwa [hr, hs]
  · obtain ⟨hopen, hage⟩ | hyoung := hl k hk
    · exact hage ▸ hages k hopen
    · exact hyoung

theorem young_of_frame {s t : State} (h : s.young) (hl : t.lines = s.lines := by simp)
    (hr : t.regions = s.regions := by simp) (hs : t.settings = s.settings := by simp) : t.young :=
  young_of_lines h (fun k hk => Or.inl ⟨hl ▸ hk, by rw [hl]⟩) hr hs

/-- A change of one line that opens none and leaves its age. -/
theorem updateLine_young {s : State} (h : s.young) (i : LineNo) {f : Line → Line}
    (hf : (f s.lines[i]).state = .open → s.lines[i].state = .open ∧ (f s.lines[i]).age = s.lines[i].age) :
    (updateLine s i f).young := by
  refine young_of_lines h fun k hk => Or.inl ?_
  rw [updateLine_get] at hk ⊢
  by_cases hki : k = i
  · subst hki
    rw [if_pos rfl] at hk ⊢
    exact hf hk
  · rw [if_neg hki] at hk ⊢
    exact ⟨hk, rfl⟩

theorem openLine_young {s : State} (h : s.young) (i : LineNo) (p : PageNo) (w : List (Fin 64 × Byte)) :
    (openLine s i p w).young := by
  refine young_of_lines h fun k hk => ?_
  rw [openLine_get] at hk ⊢
  by_cases hki : k = i
  · rw [if_pos hki]
    exact Or.inr (Nat.zero_le 14)
  · rw [if_neg hki] at hk ⊢
    exact Or.inl ⟨hk, rfl⟩

theorem sealLine_young {s : State} (h : s.young) (i : LineNo) : (sealLine s i).young := by
  unfold sealLine
  split
  · exact young_of_frame (updateLine_young h i (f := fun l => { l with state := .sealed }) fun hk => by cases hk)
  · exact h

theorem freeLine_young {s : State} (h : s.young) (i : LineNo) : (freeLine s i).young :=
  young_of_frame (updateLine_young h i (f := fun _ => Line.cleared) fun hk => by cases hk)

theorem failLine_young {s : State} (h : s.young) (i : LineNo) : (failLine s i).young :=
  young_of_frame (updateLine_young h i (f := fun l => { l with state := .failed, through := false }) fun hk => by cases hk)

theorem retryLine_young {s : State} (h : s.young) (i : LineNo) : (retryLine s i).young :=
  young_of_frame (updateLine_young h i (f := fun l => { l with state := .sealed }) fun hk => by cases hk)

theorem takeLine_young {s : State} (h : s.young) (i : LineNo) : (takeLine s i).young :=
  young_of_frame (updateLine_young h i (f := fun l => { l with state := .committing }) fun hk => by cases hk)

theorem fillLine_young {s : State} (h : s.young) (i : LineNo) (image : Page) : (fillLine s i image).young := by
  refine updateLine_young h i fun hk => ?_
  split at hk
  · next hc => rw [hc] at hk; cases hk
  · next hc =>
    rw [if_neg hc]
    exact ⟨hk, rfl⟩

theorem foldl_young {f : State → LineNo → State} (hf : ∀ {s}, s.young → ∀ i, (f s i).young) {s : State} (h : s.young)
    (is : List LineNo) : (is.foldl f s).young := by
  induction is generalizing s with
  | nil => exact h
  | cons i is ih => exact ih (hf h i)

/-! ### Ageing -/

/-- A commit delay is at most 15, whether a region's, the setting or that of no page (R33, R116, R176). -/
theorem lineDelay_le {s : State} (h : s.tablesLaw) (i : LineNo) : lineDelay s i ≤ 15 := by
  obtain ⟨⟨-, ⟨-, hdelay⟩, -⟩, hregions⟩ := h
  unfold lineDelay
  split
  · next p _ =>
    unfold delayOf
    split
    · next r hr =>
      obtain ⟨n, -, rfl⟩ := Option.map_eq_some_iff.1 hr
      cases hd : (s.regions[n]).delay with
      | none => exact hdelay
      | some d => exact ((hregions n).2 d hd).2
    · exact hdelay
  · exact hdelay

/-- A line that ages past 14 has reached its commit delay, and is sealed. -/
theorem ageLine_young {s : State} (h : s.young) (i : LineNo) : (ageLine s i).young := by
  refine young_of_lines h fun k hk => ?_
  rw [ageLine_get] at hk ⊢
  by_cases hki : k = i
  · subst hki
    rw [if_pos rfl] at hk ⊢
    have hdelay := lineDelay_le h.1 k
    dsimp only at hk ⊢
    split at hk
    · cases hk
    · next hreached =>
      have hage : ¬ lineDelay s k ≤ s.lines[k].age + 1 := fun hd => hreached ⟨hd, hk⟩
      exact Or.inr (by omega)
  · rw [if_neg hki] at hk ⊢
    exact Or.inl ⟨hk, rfl⟩

/-! ### The operations of the staging buffer and the port -/

theorem acceptIntoLine_young {s : State} (h : s.young) (i : LineNo) (t : Transaction) (k : AccessKind) :
    (acceptIntoLine s i t k).young := by
  have hu : (updateLine s i fun l => { l with through := true }).young := updateLine_young h i fun hk => ⟨hk, rfl⟩
  unfold acceptIntoLine
  split
  · exact young_of_frame (sealLine_young hu i) rfl rfl rfl
  · exact young_of_frame h

theorem mergeWrite_young {s : State} (h : s.young) (i : LineNo) (t : Transaction) (k : AccessKind) :
    (mergeWrite s i t k).young := by
  have hu : (updateLine s i fun l => { l with staged := putBytes l.staged (writesOf t) }).young :=
    updateLine_young h i fun hk => ⟨hk, rfl⟩
  refine acceptIntoLine_young ?_ i t k
  unfold sealIfFull
  split
  · exact sealLine_young hu i
  · exact hu

theorem openForWrite_young {s : State} (h : s.young) (i : LineNo) (t : Transaction) (k : AccessKind) :
    (openForWrite s i t k).young := acceptIntoLine_young (openLine_young h i _ _) i t k

theorem pressureSeal_young {s : State} (h : s.young) : (pressureSeal s).young := by
  unfold pressureSeal
  split
  · exact sealLine_young h _
  · exact h

theorem takeWrite_young {s : State} (h : s.young) (t : Transaction) (k : AccessKind) : (takeWrite s t k).young := by
  unfold takeWrite
  repeat' split
  · exact young_of_frame h
  · exact mergeWrite_young h _ t k
  · exact openForWrite_young h _ t k
  · exact young_of_frame (pressureSeal_young h)

theorem continueChecks_young {s : State} (h : s.young) (t : Transaction) (k : AccessKind) : (continueChecks s t k).young := by
  unfold continueChecks
  repeat' split
  · exact young_of_frame h
  · exact young_of_frame h
  · exact young_of_frame h
  · exact takeWrite_young h t k

theorem takeTransaction_young {s : State} (h : s.young) (t : Transaction) : (takeTransaction s t).young := by
  unfold takeTransaction
  repeat' split
  · exact young_of_frame h
  · exact young_of_frame h
  · exact young_of_frame h
  · exact young_of_frame h
  · exact continueChecks_young h t _

theorem startHoldResume_young {s : State} (h : s.young) : (startHoldResume s).young := by
  unfold startHoldResume
  split
  · split
    · exact h
    · exact continueChecks_young h _ _
  · exact h

theorem retakeHeldWrite_young {s : State} (h : s.young) : (retakeHeldWrite s).young := by
  unfold retakeHeldWrite
  repeat' split
  · exact h
  · exact young_of_frame h
  · exact young_of_frame h
  · exact openForWrite_young h _ _ _
  · exact h

theorem answerThrough_young {s : State} (h : s.young) : (answerThrough s).young := by
  unfold answerThrough
  repeat' split
  · exact young_of_frame h
  · next i _ _ _ =>
    have hu : (updateLine s i fun l => { l with through := false }).young := updateLine_young h i fun hk => ⟨hk, rfl⟩
    exact young_of_frame hu
  · exact h
  · exact h

theorem sealAll_young {s : State} (h : s.young) : (sealAll s).young := foldl_young sealLine_young h _

theorem enterDraining_young {s : State} (h : s.young) : (enterDraining s).young := by
  have hsealed : (sealAll { s with frontEnd := .draining }).young := sealAll_young (young_of_frame h)
  exact young_of_frame hsealed (by simp [enterDraining, drainEntry])

theorem handBackRetired_young {s : State} (h : s.young) (is : List LineNo) : (handBackRetired s is).young :=
  retakeHeldWrite_young (answerThrough_young (foldl_young freeLine_young h _))

theorem handBackFailed_young {s : State} (h : s.young) (is : List LineNo) : (handBackFailed s is).young :=
  answerThrough_young (foldl_young failLine_young (foldl_young failLine_young h _) _)

theorem chooseIf_young {s : State} (h : s.young) (test : Choice → Bool) : (chooseIf s test).young := by
  unfold chooseIf
  split
  · next c _ =>
    split
    · cases c with
      | restore b sec => exact young_of_frame h (by simp [startChoice])
      | close b sec => exact young_of_frame h (by simp [startChoice])
      | commit i p => exact young_of_frame (takeLine_young h i) rfl rfl rfl
    · exact h
  · exact h

/-! ### The tables -/

theorem agesLaw_of_lines {s t : State} (h : s.agesLaw) (hl : t.lines = s.lines) : t.agesLaw := by
  unfold State.agesLaw
  rwa [hl]

theorem setRegion_young {s : State} (h : s.young) (n : Fin 8) {r : Region} (hr : r.inRange) :
    State.young { s with regions := s.regions.set n r } := by
  obtain ⟨⟨hsettings, hregions⟩, hages⟩ := h
  refine ⟨⟨hsettings, fun m => ?_⟩, agesLaw_of_lines hages rfl⟩
  rw [Fin.getElem_fin, Vector.getElem_set]
  split
  · exact hr
  · exact hregions m

/-- A value that passes its check is in range, a byte being at most 255 (R176). -/
theorem withSetting_inRange {c c' : Settings} {field value : Byte} (h : c.inRange) (hc : withSetting c field value = some c') :
    c'.inRange := by
  have hv := value.isLt
  unfold withSetting at hc
  dsimp only at hc
  split_ifs at hc
  on_goal 8 =>
    obtain ⟨kind, -, rfl⟩ := Option.map_eq_some_iff.1 hc
    exact h
  all_goals
    obtain rfl := Option.some.inj hc
    unfold Settings.inRange at h ⊢
    dsimp only
    omega

theorem setSettings_young {s : State} (h : s.young) {c : Settings} {field value : Byte}
    (hc : withSetting s.settings field value = some c) : State.young { s with settings := c } := by
  obtain ⟨⟨hsettings, hregions⟩, hages⟩ := h
  exact ⟨⟨withSetting_inRange hsettings hc, hregions⟩, agesLaw_of_lines hages rfl⟩

/-! ### Every step -/

/-- The parts of a step keep the tables in range and the OPEN lines young; a job makes no difference to either. -/
theorem young_stepLaw : StepLaw State.young State.young fun s _ => s.young where
  frame h hf _ := young_of_frame h hf.lines hf.regions hf.settings
  reset _ _ _ := young_of_frame ⟨reset_tablesLaw, reset_agesLaw⟩ rfl rfl rfl
  running h _ := h
  resting h _ := h
  moves h _ hf := young_of_frame h hf.lines hf.regions hf.settings
  fills i image h := fillLine_young h i image
  absorbs h _ := foldl_young takeLine_young h _
  retires h := handBackRetired_young h _
  fails h := handBackFailed_young h _
  closes h _ := h
  bareFrame h hf := young_of_frame h hf.lines hf.regions hf.settings
  cascades _ h := answerThrough_young (foldl_young failLine_young h _)
  begins h _ := h
  rests h _ := h
  scans h _ _ := h
  seals := sealAll_young
  ages h := foldl_young ageLine_young h _
  retries _ h _ := foldl_young retryLine_young h _
  discards _ h := retakeHeldWrite_young (foldl_young freeLine_young h _)
  retakes := retakeHeldWrite_young
  answers := answerThrough_young
  takes t h _ := takeTransaction_young h t
  resumes := startHoldResume_young
  chooses test h := chooseIf_young h test
  releases h _ := young_of_frame h
  drains := enterDraining_young
  returns h := young_of_frame h
  tests h := young_of_frame h
  requests _ h _ := young_of_frame h
  setsRegion n _ h hr := setRegion_young h n hr
  setsSettings h hc := setSettings_young h hc

/-- Settles O55. -/
theorem stepKeepsTablesAndAges : Obligations.StepKeepsTablesAndAges := by
  intro s t h hstep
  exact step_law young_stepLaw h hstep

end Sys2Proof.Machine
end

section
/-! PROOF. The law of the front-end state, with that of the lines: lines come into use by writes alone, and the staging buffer takes a write
in READY alone (R30, R40, R45, R130, R148). -/

namespace Sys2Proof.Machine

set_option Elab.async false

/-! ### What opens nothing -/

/-- From `s` to `t` no FREE line comes into use and none becomes OPEN; the port may have answered, and pending recovery jobs may have
gone. -/
structure State.opensNothing (s t : State) : Prop where
  free : ∀ k : LineNo, s.lines[k].state = .free → t.lines[k].state = .free
  opened : ∀ k : LineNo, t.lines[k].state = .open → s.lines[k].state = .open
  frontEnd : t.frontEnd = s.frontEnd
  port : t.port = s.port ∨ t.port = .idle
  pending : s.nothingPending → t.nothingPending

theorem opensNothing_of_framed {s t : State} (h : s.framed t) : s.opensNothing t :=
  ⟨fun _ hk => by rwa [h.lines], fun _ hk => by rwa [h.lines] at hk, h.frontEnd, h.port, h.pending⟩

theorem opensNothing_trans {s t u : State} (h : s.opensNothing t) (h' : t.opensNothing u) : s.opensNothing u where
  free k hk := h'.free k (h.free k hk)
  opened k hk := h.opened k (h'.opened k hk)
  frontEnd := h'.frontEnd.trans h.frontEnd
  port := by
    obtain hp | hp := h'.port
    · exact hp ▸ h.port
    · exact Or.inr hp
  pending hn := h'.pending (h.pending hn)

/-- Operations on lines judged by their lines, the rest being in their frame. -/
theorem opensNothing_of_lines {s t : State} (hfree : ∀ k : LineNo, s.lines[k].state = .free → t.lines[k].state = .free)
    (hopened : ∀ k : LineNo, t.lines[k].state = .open → s.lines[k].state = .open)
    (hf : t.frontEnd = s.frontEnd := by simp) (hp : t.port = s.port ∨ t.port = .idle := by simp)
    (hq : t.quarantine = s.quarantine := by simp) : s.opensNothing t :=
  ⟨hfree, hopened, hf, hp, fun hn => by unfold State.nothingPending; rwa [hq]⟩

theorem freeLines_opensNothing (s : State) (is : List LineNo) : s.opensNothing (is.foldl freeLine s) := by
  refine opensNothing_of_lines (fun k hk => ?_) fun k hk => ?_
  · rw [freeLines_get]
    split
    · rfl
    · exact hk
  · rw [freeLines_get] at hk
    split at hk
    · cases hk
    · exact hk

theorem failLines_opensNothing {s : State} {is : List LineNo} (his : ∀ k ∈ is, s.lines[k].state ≠ .free) :
    s.opensNothing (is.foldl failLine s) := by
  refine opensNothing_of_lines (fun k hk => ?_) fun k hk => ?_
  · rw [failLines_get, if_neg fun hm => his k hm hk]
    exact hk
  · rw [failLines_get] at hk
    split at hk
    · cases hk
    · exact hk

theorem takeLines_opensNothing {s : State} {is : List LineNo} (his : ∀ k ∈ is, s.lines[k].state ≠ .free) :
    s.opensNothing (is.foldl takeLine s) := by
  refine opensNothing_of_lines (fun k hk => ?_) fun k hk => ?_
  · rw [takeLines_get, if_neg fun hm => his k hm hk]
    exact hk
  · rw [takeLines_get] at hk
    split at hk
    · cases hk
    · exact hk

theorem sealAll_opensNothing (s : State) : s.opensNothing (sealAll s) := by
  refine opensNothing_of_lines (fun k hk => ?_) fun k hk => ?_
  · rw [sealAll, sealLines_get, if_neg fun hm => by rw [hk] at hm; cases hm.2]
    exact hk
  · rw [sealAll, sealLines_get] at hk
    split at hk
    · cases hk
    · exact hk

/-- A change that leaves the state of a line opens nothing. -/
theorem updateLine_opensNothing (s : State) (i : LineNo) {f : Line → Line} (hf : (f s.lines[i]).state = s.lines[i].state) :
    s.opensNothing (updateLine s i f) := by
  have hstate : ∀ k : LineNo, (updateLine s i f).lines[k].state = s.lines[k].state := fun k => by
    rw [updateLine_get]
    split
    · next hk => rw [hk, hf]
    · rfl
  exact opensNothing_of_lines (fun k hk => by rwa [hstate]) fun k hk => by rwa [hstate] at hk

theorem fillLine_opensNothing (s : State) (i : LineNo) (image : Page) : s.opensNothing (fillLine s i image) := by
  refine updateLine_opensNothing s i ?_
  split <;> rfl

theorem answerThrough_opensNothing (s : State) : s.opensNothing (answerThrough s) := by
  unfold answerThrough
  repeat' split
  · exact opensNothing_of_framed framed_of_eq
  · next i _ _ _ =>
    exact opensNothing_trans (updateLine_opensNothing s i (f := fun l => { l with through := false }) rfl)
      (opensNothing_of_framed framed_of_eq)
  · exact opensNothing_of_framed (framed_refl s)
  · exact opensNothing_of_framed (framed_refl s)

theorem handBackFailed_opensNothing (s : State) (is : List LineNo) : s.opensNothing (handBackFailed s is) := by
  unfold handBackFailed
  rw [← List.foldl_append]
  refine opensNothing_trans (failLines_opensNothing fun k hk => ?_) (answerThrough_opensNothing _)
  obtain hk | hk := List.mem_append.1 hk
  · exact committingIn_not_free hk
  · exact waitingLines_not_free hk

theorem entryCascade_opensNothing (s : State) (sec : SectorNo) : s.opensNothing (entryCascade s sec) :=
  opensNothing_trans (failLines_opensNothing fun _ hk => waitingLines_not_free hk) (answerThrough_opensNothing _)

/-! ### The lines and the port, outside READY -/

/-- The law of the lines with what the law of the front-end state says of lines and port (R40, R45): nothing in use before READY, nothing
open in DRAINING and DRAINED. -/
def State.guarded (s : State) : Prop :=
  s.linesLaw ∧
  (s.frontEnd = .inReset ∨ s.frontEnd = .starting →
    (∀ i : LineNo, s.lines[i].state = .free) ∧ s.nothingPending ∧ s.portAwaitsStart = true) ∧
  (s.frontEnd = .draining ∨ s.frontEnd = .drained → (∀ i : LineNo, s.lines[i].state ≠ .open) ∧ s.holdsForLine = false)

/-- The law of the front-end state with that of the lines. -/
def State.fronted (s : State) : Prop := s.linesLaw ∧ s.frontEndLaw

theorem fronted_iff {s : State} :
    s.fronted ↔ s.guarded ∧ (s.frontEnd = .drained → s.commitQueue = [] ∧ s.job = none ∧ s.nothingPending) :=
  ⟨fun ⟨hl, hw, hd, hdone⟩ => ⟨⟨hl, hw, hd⟩, hdone⟩, fun ⟨⟨hl, hw, hd⟩, hdone⟩ => ⟨hl, hw, hd, hdone⟩⟩

/-- In READY the law of the front-end state asks for nothing. -/
theorem guarded_of_ready {s : State} (hl : s.linesLaw) (hf : s.frontEnd = .ready) : s.guarded :=
  ⟨hl, fun h => by simp [hf] at h, fun h => by simp [hf] at h⟩

theorem fronted_of_not_drained {s : State} (h : s.guarded) (hf : s.frontEnd ≠ .drained) : s.fronted :=
  fronted_iff.2 ⟨h, fun hd => absurd hd hf⟩

theorem fronted_of_ready {s : State} (hl : s.linesLaw) (hf : s.frontEnd = .ready) : s.fronted :=
  fronted_of_not_drained (guarded_of_ready hl hf) (by simp [hf])

theorem portAwaitsStart_of_port {s t : State} (h : s.portAwaitsStart = true) (hp : t.port = s.port ∨ t.port = .idle) :
    t.portAwaitsStart = true := by
  unfold State.portAwaitsStart at h ⊢
  obtain hp | hp := hp
  · rwa [hp]
  · rw [hp]

theorem holdsForLine_of_port {s t : State} (h : s.holdsForLine = false) (hp : t.port = s.port ∨ t.port = .idle) :
    t.holdsForLine = false := by
  unfold State.holdsForLine at h ⊢
  obtain hp | hp := hp
  · rwa [hp]
  · rw [hp]

theorem guarded_of_opensNothing {s t : State} (h : s.guarded) (hl : t.linesLaw) (ho : s.opensNothing t) : t.guarded := by
  obtain ⟨-, hwait, hdrain⟩ := h
  refine ⟨hl, fun hf => ?_, fun hf => ?_⟩
  · obtain ⟨hfree, hpend, hport⟩ := hwait (ho.frontEnd ▸ hf)
    exact ⟨fun k => ho.free k (hfree k), ho.pending hpend, portAwaitsStart_of_port hport ho.port⟩
  · obtain ⟨hopen, hport⟩ := hdrain (ho.frontEnd ▸ hf)
    exact ⟨fun k hk => hopen k (ho.opened k hk), holdsForLine_of_port hport ho.port⟩

/-- A step that opens nothing and leaves the job, and the queue where it is empty, keeps the law of the front-end state. -/
theorem fronted_of_opensNothing {s t : State} (h : s.fronted) (hl : t.linesLaw) (ho : s.opensNothing t)
    (hq : s.commitQueue = [] → t.commitQueue = []) (hj : t.job = s.job := by simp) : t.fronted := by
  obtain ⟨hg, hdone⟩ := fronted_iff.1 h
  refine fronted_iff.2 ⟨guarded_of_opensNothing hg hl ho, fun hf => ?_⟩
  obtain ⟨hqueue, hjob, hpend⟩ := hdone (ho.frontEnd ▸ hf)
  exact ⟨hq hqueue, hj ▸ hjob, ho.pending hpend⟩

theorem guarded_of_framed {s t : State} (h : s.guarded) (hf : s.framed t) : t.guarded :=
  guarded_of_opensNothing h (linesLaw_of_frame h.1 hf.lines hf.ageList hf.commitQueue) (opensNothing_of_framed hf)

/-- The part of the law that a job in hand, or its end, keeps: the state is not DRAINED. -/
def State.undrained (s : State) : Prop := s.guarded ∧ s.frontEnd ≠ .drained

theorem undrained_of_opensNothing {s t : State} (h : s.undrained) (hl : t.linesLaw) (ho : s.opensNothing t) : t.undrained :=
  ⟨guarded_of_opensNothing h.1 hl ho, ho.frontEnd ▸ h.2⟩

/-- Outside READY no write is held for a line. -/
theorem holdsForLine_of_guarded {s : State} (h : s.guarded) (hf : s.frontEnd ≠ .ready) : s.holdsForLine = false := by
  obtain ⟨-, hwait, hdrain⟩ := h
  have hawaits : s.portAwaitsStart = true → s.holdsForLine = false := by
    unfold State.portAwaitsStart State.holdsForLine
    repeat' split
    all_goals simp_all
  cases hs : s.frontEnd with
  | ready => exact absurd hs hf
  | inReset => exact hawaits (hwait (Or.inl hs)).2.2
  | starting => exact hawaits (hwait (Or.inr hs)).2.2
  | draining => exact (hdrain (Or.inl hs)).2
  | drained => exact (hdrain (Or.inr hs)).2

/-- Outside READY no write is taken again. -/
theorem retakeHeldWrite_guarded {s : State} (h : s.guarded) : (retakeHeldWrite s).guarded := by
  by_cases hf : s.frontEnd = .ready
  · exact guarded_of_ready (retakeHeldWrite_linesLaw h.1) (by simp [hf])
  · rwa [retakeHeldWrite_none (holdsForLine_of_guarded h hf)]

theorem retakeHeldWrite_fronted {s : State} (h : s.fronted) : (retakeHeldWrite s).fronted := by
  by_cases hf : s.frontEnd = .ready
  · exact fronted_of_ready (retakeHeldWrite_linesLaw h.1) (by simp [hf])
  · rwa [retakeHeldWrite_none (holdsForLine_of_guarded (fronted_iff.1 h).1 hf)]

theorem handBackRetired_undrained {s : State} (h : s.undrained) (is : List LineNo) : (handBackRetired s is).undrained := by
  have hfreed := undrained_of_opensNothing h (freeLines_linesLaw h.1.1 (committingIn s is)) (freeLines_opensNothing s _)
  have hans := undrained_of_opensNothing hfreed (answerThrough_linesLaw hfreed.1.1) (answerThrough_opensNothing _)
  exact ⟨retakeHeldWrite_guarded hans.1, by simpa using h.2⟩

/-! ### Transactions, outside READY -/

/-- A step that answers or holds a transaction, but not for a line, and for start-up alone in STARTING. -/
theorem fronted_of_port {s t : State} (h : s.fronted) (hr : s.frontEnd ≠ .inReset)
    (hs : s.frontEnd = .starting → t.portAwaitsStart = true) (hp : t.holdsForLine = false) (hl : t.lines = s.lines := by simp)
    (ha : t.ageList = s.ageList := by simp) (hc : t.commitQueue = s.commitQueue := by simp)
    (hq : t.quarantine = s.quarantine := by simp) (hj : t.job = s.job := by simp)
    (hf : t.frontEnd = s.frontEnd := by simp) : t.fronted := by
  obtain ⟨hlines, hwait, hdrain, hdone⟩ := h
  refine ⟨linesLaw_of_frame hlines hl ha hc, ?_⟩
  unfold State.frontEndLaw State.nothingPending
  rw [hf, hl, hc, hq, hj]
  refine ⟨fun hw => ?_, fun hd => ⟨(hdrain hd).1, hp⟩, hdone⟩
  obtain ⟨hfree, hpend, -⟩ := hwait hw
  exact ⟨hfree, hpend, hs (hw.resolve_left hr)⟩

theorem refuse_fronted {s : State} (h : s.fronted) (hr : s.frontEnd ≠ .inReset) (t : Transaction) (r : RefusedReason) :
    (refuse s t r).fronted :=
  fronted_of_port h hr (fun _ => rfl) rfl

/-- In DRAINING and DRAINED writes are refused, and reads are answered or held for a bank. -/
theorem continueChecks_fronted {s : State} (h : s.fronted) (hs : s.frontEnd ≠ .starting) (hr : s.frontEnd ≠ .inReset)
    (t : Transaction) (k : AccessKind) : (continueChecks s t k).fronted := by
  by_cases hready : s.frontEnd = .ready
  · exact fronted_of_ready (continueChecks_linesLaw h.1 t k) (by simp [hready])
  · have hd : s.frontEnd = .draining ∨ s.frontEnd = .drained := by
      cases hf : s.frontEnd <;> simp_all
    cases hdir : t.direction with
    | write =>
      rw [continueChecks_drain hdir hd]
      exact fronted_of_port h hr (fun _ => rfl) rfl
    | read =>
      rw [show continueChecks s t k = takeRead s t k by simp [continueChecks, hdir]]
      refine fronted_of_port h hr (fun hst => absurd hst hs) ?_
      unfold takeRead
      split <;> rfl

theorem takeTransaction_fronted {s : State} (h : s.fronted) (hr : s.frontEnd ≠ .inReset) (t : Transaction) :
    (takeTransaction s t).fronted := by
  unfold takeTransaction
  split
  · exact refuse_fronted h hr t _
  · split
    · exact refuse_fronted h hr t _
    · split
      · exact refuse_fronted h hr t _
      · split
        · exact fronted_of_port h hr (fun _ => rfl) rfl
        · next hs => exact continueChecks_fronted h hs hr t _

theorem startHoldResume_fronted {s : State} (h : s.fronted) : (startHoldResume s).fronted := by
  unfold startHoldResume
  split
  · split
    · exact h
    · next hs =>
      obtain ⟨hstarting, hreset⟩ := not_or.1 hs
      exact continueChecks_fronted h hstarting hreset _ _
  · exact h

/-! ### Sealing, ageing, retry and discard -/

/-- With an empty queue no line is SEALED, and in DRAINED none is OPEN. -/
theorem linesByAge_open_of_drained {s : State} (h : s.guarded) (hf : s.frontEnd = .drained) : linesByAge s .open = [] :=
  List.eq_nil_iff_forall_not_mem.2 fun k hk => (h.2.2 (Or.inr hf)).1 k (mem_linesByAge hk)

theorem sealAll_fronted {s : State} (h : s.fronted) : (sealAll s).fronted := by
  obtain ⟨hg, hdone⟩ := fronted_iff.1 h
  refine fronted_iff.2 ⟨guarded_of_opensNothing hg (sealAll_linesLaw h.1) (sealAll_opensNothing s), fun hf => ?_⟩
  have hd : s.frontEnd = .drained := by simpa using hf
  have hsame : sealAll s = s := by simp [sealAll, sealLines, linesByAge_open_of_drained hg hd]
  rw [hsame]
  exact hdone hd

/-- Outside READY no line is OPEN, and none ages. -/
theorem ageLines_fronted {s : State} (h : s.fronted) : (ageLines s).fronted := by
  by_cases hf : s.frontEnd = .ready
  · exact fronted_of_ready (ageLines_linesLaw h.1) (by simp [hf])
  · obtain ⟨⟨-, hwait, hdrain⟩, -⟩ := fronted_iff.1 h
    have hnone : ∀ k : LineNo, s.lines[k].state ≠ .open := fun k hk => by
      cases hs : s.frontEnd with
      | ready => exact hf hs
      | inReset => exact absurd hk (by simp [-Fin.getElem_fin, (hwait (Or.inl hs)).1 k])
      | starting => exact absurd hk (by simp [-Fin.getElem_fin, (hwait (Or.inr hs)).1 k])
      | draining => exact (hdrain (Or.inl hs)).1 k hk
      | drained => exact (hdrain (Or.inr hs)).1 k hk
    have hno : linesByAge s .open = [] := List.eq_nil_iff_forall_not_mem.2 fun k hk => hnone k (mem_linesByAge hk)
    rw [ageLines, hno]
    exact h

theorem freeLines_fronted {s : State} (h : s.fronted) (is : List LineNo) : (is.foldl freeLine s).fronted := by
  refine fronted_of_opensNothing h (freeLines_linesLaw h.1 is) (freeLines_opensNothing s is) fun hq => ?_
  rw [freeLines_commitQueue s is h.1.2.1, hq]
  rfl

theorem answerThrough_fronted {s : State} (h : s.fronted) : (answerThrough s).fronted :=
  fronted_of_opensNothing h (answerThrough_linesLaw h.1) (answerThrough_opensNothing s) (by simp)

/-! ### Front-end control -/

/-- The drain entry leaves no line OPEN and no write held for a line, and DRAINED follows where nothing is left to do (R35, R148). -/
theorem enterDraining_fronted {s : State} (h : s.linesLaw) : (enterDraining s).fronted := by
  have hlines : ∀ k : LineNo, (enterDraining s).lines[k].state ≠ .open := fun k hk => by
    rw [enterDraining_lines, sealAll_get (s := { s with frontEnd := .draining }) h] at hk
    split at hk
    · cases hk
    · next hno => exact hno hk
  have hl := enterDraining_linesLaw h
  have heq := enterDraining_eq h
  have hfront : (enterDraining s).frontEnd =
      if s.commitQueue ++ linesByAge s .open = [] ∧ s.job = none ∧ s.nothingPending then .drained else .draining := by
    rw [heq]
  have hport : (enterDraining s).port = if s.holdsForLine then .idle else s.port := by rw [heq]
  have hnotHeld : (enterDraining s).holdsForLine = false := by
    cases hh : s.holdsForLine with
    | true =>
      rw [hh, if_pos rfl] at hport
      simp only [State.holdsForLine, hport]
    | false =>
      rw [hh, if_neg (by simp)] at hport
      exact holdsForLine_of_port hh (Or.inl hport)
  refine ⟨hl, fun hw => ?_, fun _ => ⟨hlines, hnotHeld⟩, fun hd => ?_⟩
  · rw [hfront] at hw
    split at hw <;> simp at hw
  · rw [hfront] at hd
    split at hd
    · next hdone =>
      rw [heq]
      exact hdone
    · cases hd

theorem drainTest_fronted {s : State} (h : s.fronted) : (drainTest s).fronted := by
  unfold drainTest
  split
  · next hdone =>
    obtain ⟨hf, hq, hj, hz, ho⟩ := hdone
    obtain ⟨hl, -, hdrain, -⟩ := h
    exact ⟨hl, fun hw => by simp at hw, fun _ => hdrain (Or.inl hf), fun _ => ⟨hq, hj, hz, ho⟩⟩
  · exact h

/-- A job that starts takes at most one line, SEALED before. -/
theorem startChoice_opensNothing {s : State} (h : s.linesLaw) {c : Choice} (hc : nextJob s = some c) :
    s.opensNothing (startChoice s c) := by
  obtain ⟨b, hb⟩ | hh := nextJob_eq_some hc
  · obtain ⟨sec, -, ⟨-, rfl⟩ | ⟨-, rfl⟩⟩ := pendingChoice_eq_some hb
    · exact opensNothing_of_framed (framed_of_eq (hl := by simp [startChoice]) (hc := by simp [startChoice]))
    · exact opensNothing_of_framed (framed_of_eq (hl := by simp [startChoice]) (hc := by simp [startChoice]))
  · obtain ⟨i, rest, p, hq, -, rfl⟩ := headChoice_eq_some hh
    have hsealed : s.lines[i].state = .sealed := (mem_commitQueue_iff h).1 (hq ▸ List.mem_cons_self)
    have hi : ∀ k ∈ [i], s.lines[k].state ≠ .free := fun k hk => by
      rw [List.mem_singleton.1 hk, hsealed]
      simp
    exact opensNothing_trans (takeLines_opensNothing hi)
      (opensNothing_of_framed (framed_of_eq rfl rfl rfl rfl rfl rfl (Or.inl rfl) id))

/-- In DRAINED nothing starts; the start of a job opens nothing. -/
theorem chooseIf_fronted {s : State} (h : s.fronted) (test : Choice → Bool) : (chooseIf s test).fronted := by
  unfold chooseIf
  split
  · next c hc =>
    split
    · have hf : s.frontEnd ≠ .drained := fun hd => by
        rw [nextJob_of_nothingToStart (Or.inr ⟨(h.2.2.2 hd).1, (h.2.2.2 hd).2.2⟩)] at hc
        cases hc
      have hg := (fronted_iff.1 h).1
      refine fronted_of_not_drained (guarded_of_opensNothing hg (startChoice_linesLaw h.1 hc) ?_) (by simpa using hf)
      exact startChoice_opensNothing h.1 hc
    · exact h
  · exact h

/-! ### Every step -/

/-- Out of DRAINED a law before the job's end holds after it. -/
theorem fronted_of_undrained {s : State} (h : s.undrained) : s.fronted := fronted_of_not_drained h.1 h.2

/-- A running job keeps the state from being DRAINED. -/
theorem undrained_of_job {s : State} (h : s.fronted) {j : Job} (hj : s.job = some j) : s.undrained := by
  obtain ⟨hg, hdone⟩ := fronted_iff.1 h
  refine ⟨hg, fun hd => ?_⟩
  rw [(hdone hd).2.1] at hj
  cases hj

theorem fronted_of_framed {s t : State} (h : s.fronted) (hf : s.framed t) (hj : t.job = s.job) : t.fronted :=
  fronted_of_opensNothing h (linesLaw_of_frame h.1 hf.lines hf.ageList hf.commitQueue) (opensNothing_of_framed hf)
    (fun hq => hf.commitQueue.trans hq) hj

theorem partReset_fronted (s : State) (cause : ResetCause) (left : PulseResidue) : (partReset s cause left).fronted :=
  ⟨linesLaw_of_frame reset_linesLaw rfl rfl rfl, reset_frontEndLaw⟩

/-- The parts of a step keep the law of the front-end state with that of the lines. -/
theorem fronted_stepLaw : StepLaw State.fronted State.undrained fun s _ => s.undrained where
  frame := fronted_of_framed
  reset := partReset_fronted
  running h hj := undrained_of_job h hj
  resting h _ := fronted_of_undrained h
  moves h _ hf := ⟨guarded_of_framed h.1 hf, hf.frontEnd ▸ h.2⟩
  fills i image h := undrained_of_opensNothing h (fillLine_linesLaw h.1.1 i image) (fillLine_opensNothing _ i image)
  absorbs h _ :=
    have hnf := fun _ hk => linesToAbsorb_not_free h.1.1 hk
    undrained_of_opensNothing h (takeLines_linesLaw h.1.1 hnf) (takeLines_opensNothing hnf)
  retires h := handBackRetired_undrained h _
  fails h := undrained_of_opensNothing h (handBackFailed_linesLaw h.1.1 _) (handBackFailed_opensNothing _ _)
  closes h _ := h
  bareFrame h hf := ⟨guarded_of_framed h.1 hf, hf.frontEnd ▸ h.2⟩
  cascades sec h := undrained_of_opensNothing h (entryCascade_linesLaw h.1.1 sec) (entryCascade_opensNothing _ sec)
  begins h _ := h
  rests h _ := fronted_of_undrained h
  scans h hs _ := ⟨(fronted_iff.1 h).1, by simp [hs]⟩
  seals := sealAll_fronted
  ages := ageLines_fronted
  retries p h hf := fronted_of_ready (retryLines_linesLaw h.1 p) (by simpa using hf)
  discards _ h := retakeHeldWrite_fronted (freeLines_fronted h _)
  retakes := retakeHeldWrite_fronted
  answers := answerThrough_fronted
  takes t h hr := takeTransaction_fronted h hr t
  resumes := startHoldResume_fronted
  chooses test h := chooseIf_fronted h test
  releases h hr :=
    have hwait := h.2.1 (Or.inl hr)
    ⟨linesLaw_of_frame h.1, fun _ => hwait, fun hd => by simp at hd, fun hd => by cases hd⟩
  drains h := enterDraining_fronted h.1
  returns h := fronted_of_ready (linesLaw_of_frame h.1) rfl
  tests := drainTest_fronted
  requests _ h hf := fronted_of_ready (linesLaw_of_frame h.1) hf
  setsRegion _ _ h _ := fronted_of_opensNothing h (linesLaw_of_frame h.1) (opensNothing_of_lines (fun _ => id) fun _ => id) id
  setsSettings h _ := fronted_of_opensNothing h (linesLaw_of_frame h.1) (opensNothing_of_lines (fun _ => id) fun _ => id) id

/-- Settles O57. -/
theorem stepKeepsTheFrontEndLaw : Obligations.StepKeepsTheFrontEndLaw := by
  intro s t h hstep
  exact step_law fronted_stepLaw h hstep

end Sys2Proof.Machine
end

section
/-! PROOF. The laws of the pages and of a THROUGH write's wait: the order of the lines of a page, what sealing, freeing, failing, opening and
retrying lines do to it, and the wait (R19, R22, R26, R29, R97, R98, R101, R105). -/

namespace Sys2Proof.Machine

set_option Elab.async false

/-! ### The law of the pages, in parts -/

/-- A page has at most one OPEN line (R22). -/
def State.oneOpen (s : State) : Prop :=
  ∀ i k : LineNo, s.lines[i].state = .open → s.lines[k].state = .open → s.lines[i].page = s.lines[k].page → i = k

/-- The lines of a page with a FAILED line are all FAILED (R98). -/
def State.failsTogether (s : State) : Prop :=
  ∀ i k : LineNo, s.lines[i].state = .failed → s.lines[k].state ≠ .free → s.lines[i].page = s.lines[k].page →
    s.lines[k].state = .failed

/-- After an OPEN line the age list has no line of its page (R19, R22). -/
def State.openIsNewest (s : State) : Prop :=
  s.ageList.Pairwise fun i k => s.lines[i].state = .open → s.lines[k].page ≠ s.lines[i].page

/-- What the law of the pages says of the lines alone. -/
def State.pagesInOrder (s : State) : Prop := s.oneOpen ∧ s.failsTogether ∧ s.openIsNewest

/-- While a write is held for a line, its page has no OPEN line (R29). -/
def State.heldApart (s : State) : Prop :=
  ∀ t k w, s.port = .held t k .line w → ∀ i : LineNo, s.lines[i].state = .open → s.lines[i].page ≠ some (transactionPage t)

/-- Pairs in order, by the place of their first element. -/
theorem pairwise_iff_forall_split {α : Type} {R : α → α → Prop} {l : List α} :
    l.Pairwise R ↔ ∀ (i : α) (older newer : List α), l = older ++ i :: newer → ∀ k ∈ newer, R i k := by
  refine ⟨fun h i older newer hl => ?_, fun h => ?_⟩
  · rw [hl] at h
    exact (List.pairwise_cons.1 (List.pairwise_append.1 h).2.1).1
  · induction l with
    | nil => exact List.Pairwise.nil
    | cons a l ih =>
      refine List.pairwise_cons.2 ⟨h a [] l rfl, ih fun i older newer hl => ?_⟩
      exact h i (a :: older) newer (by rw [hl, List.cons_append])

theorem pagesLaw_iff {s : State} : s.pagesLaw ↔ s.pagesInOrder ∧ s.heldApart := by
  have hnewest : s.openIsNewest ↔ ∀ (i : LineNo) (older newer : List LineNo), s.ageList = older ++ i :: newer →
      s.lines[i].state = .open → ∀ k ∈ newer, s.lines[k].page ≠ s.lines[i].page :=
    pairwise_iff_forall_split.trans
      ⟨fun h i older newer hl ho k hk => h i older newer hl k hk ho, fun h i older newer hl k hk ho => h i older newer hl ho k hk⟩
  constructor
  · rintro ⟨hone, hfail, hheld, hnew⟩
    exact ⟨⟨hone, hfail, hnewest.2 hnew⟩, hheld⟩
  · rintro ⟨⟨hone, hfail, hnew⟩, hheld⟩
    exact ⟨hone, hfail, hheld, hnewest.1 hnew⟩

/-- The laws of the lines, the pages and the wait, which no job is needed for. -/
def State.coherent (s : State) : Prop := s.linesLaw ∧ s.pagesInOrder ∧ s.heldApart ∧ s.waitLaw

/-! ### Lines that stay in their pages -/

/-- From `s` to `t` the lines in use are lines that were, of the same pages and in the same order, and none becomes OPEN. -/
structure State.keepsWithin (s t : State) : Prop where
  ageList : t.ageList.Sublist s.ageList
  used : ∀ k : LineNo, t.lines[k].state ≠ .free → s.lines[k].state ≠ .free ∧ t.lines[k].page = s.lines[k].page
  opened : ∀ k : LineNo, t.lines[k].state = .open → s.lines[k].state = .open

theorem pagesInOrder_of_keepsWithin {s t : State} (h : s.pagesInOrder) (hl : t.linesLaw) (hk : s.keepsWithin t)
    (hfail : t.failsTogether) : t.pagesInOrder := by
  obtain ⟨hone, -, hnew⟩ := h
  have hopen : ∀ k : LineNo, t.lines[k].state = .open → t.lines[k].page = s.lines[k].page := fun k ho =>
    (hk.used k (by rw [ho]; simp)).2
  refine ⟨fun i k hi hkk hp => ?_, hfail, (List.Pairwise.sublist hk.ageList hnew).imp_of_mem fun {i k} _ hmem hpair hi => ?_⟩
  · rw [hopen i hi, hopen k hkk] at hp
    exact hone i k (hk.opened i hi) (hk.opened k hkk) hp
  · rw [hopen i hi, (hk.used k ((mem_ageList_iff hl).1 hmem)).2]
    exact hpair (hk.opened i hi)

/-- The port stays, or holds no write for a line, and no line becomes OPEN: a held write stays apart. -/
theorem heldApart_of_keepsWithin {s t : State} (h : s.heldApart) (hk : s.keepsWithin t) (hp : t.port = s.port ∨ t.port = .idle) :
    t.heldApart := by
  intro w k c hport i hi
  obtain hp | hp := hp
  · rw [(hk.used i (by rw [hi]; simp)).2]
    exact h w k c (hp ▸ hport) i (hk.opened i hi)
  · rw [hp] at hport
    cases hport

theorem heldApart_of_port {s : State} (hp : s.holdsForLine = false) : s.heldApart := by
  intro t k w hport
  simp [State.holdsForLine, hport] at hp

theorem waitLaw_of_lines {s t : State} (h : s.waitLaw) (hp : t.port = s.port ∨ t.port = .idle)
    (hl : ∀ k : LineNo, s.lines[k].state = .sealed ∨ s.lines[k].state = .committing →
      t.lines[k].state = .sealed ∨ t.lines[k].state = .committing) : t.waitLaw := by
  intro w k i hport
  obtain hp | hp := hp
  · exact hl i (h w k i (hp ▸ hport))
  · rw [hp] at hport
    cases hport

/-- Lines in use that are FAILED exactly where they were: their pages still fail together. -/
theorem failsTogether_of_keepsWithin {s t : State} (h : s.failsTogether) (hk : s.keepsWithin t)
    (hf : ∀ k : LineNo, t.lines[k].state ≠ .free → (t.lines[k].state = .failed ↔ s.lines[k].state = .failed)) :
    t.failsTogether := by
  intro i k hi hkk hp
  have hi' : t.lines[i].state ≠ .free := by rw [hi]; simp
  obtain ⟨-, hpi⟩ := hk.used i hi'
  obtain ⟨hsk, hpk⟩ := hk.used k hkk
  rw [hpi, hpk] at hp
  exact (hf k hkk).2 (h i k ((hf i hi').1 hi) hsk hp)

/-- A change that keeps within the lines in use, with none failing and the waited line in its place, keeps the three laws. -/
theorem coherent_of_keepsWithin {s t : State} (h : s.coherent) (hl : t.linesLaw) (hk : s.keepsWithin t)
    (hf : ∀ k : LineNo, t.lines[k].state ≠ .free → (t.lines[k].state = .failed ↔ s.lines[k].state = .failed))
    (hw : ∀ k : LineNo, s.lines[k].state = .sealed ∨ s.lines[k].state = .committing →
      t.lines[k].state = .sealed ∨ t.lines[k].state = .committing)
    (hp : t.port = s.port ∨ t.port = .idle := by simp) : t.coherent := by
  obtain ⟨-, hpages, hheld, hwait⟩ := h
  have hfail := failsTogether_of_keepsWithin hpages.2.1 hk hf
  exact ⟨hl, pagesInOrder_of_keepsWithin hpages hl hk hfail, heldApart_of_keepsWithin hheld hk hp, waitLaw_of_lines hwait hp hw⟩

theorem coherent_of_framed {s t : State} (h : s.coherent) (hf : s.framed t) : t.coherent := by
  have hk : s.keepsWithin t := ⟨by rw [hf.ageList], fun k hk => by rw [hf.lines] at hk ⊢; exact ⟨hk, rfl⟩,
    fun k hk => by rwa [hf.lines] at hk⟩
  exact coherent_of_keepsWithin h (linesLaw_of_frame h.1 hf.lines hf.ageList hf.commitQueue) hk
    (fun k _ => by rw [hf.lines]) (fun k => by rw [hf.lines]; exact id) hf.port

/-! ### Sealing -/

/-- From `s` to `t` lines keep their pages and places, and OPEN lines are at most sealed. -/
structure State.sealsTo (s t : State) : Prop where
  page : ∀ k : LineNo, t.lines[k].page = s.lines[k].page
  state : ∀ k : LineNo, t.lines[k].state = s.lines[k].state ∨ (s.lines[k].state = .open ∧ t.lines[k].state = .sealed)
  ageList : t.ageList = s.ageList

theorem sealsTo_refl (s : State) : s.sealsTo s := ⟨fun _ => rfl, fun _ => Or.inl rfl, rfl⟩

theorem sealsTo_trans {s t u : State} (h : s.sealsTo t) (h' : t.sealsTo u) : s.sealsTo u where
  page k := (h'.page k).trans (h.page k)
  state k := by
    obtain he | ⟨ht, hu⟩ := h'.state k
    · rw [he]
      exact h.state k
    · obtain he | ⟨-, hsealed⟩ := h.state k
      · exact Or.inr ⟨he ▸ ht, hu⟩
      · rw [hsealed] at ht
        cases ht
  ageList := h'.ageList.trans h.ageList

section Seals

variable {s t : State} (h : s.sealsTo t)
include h

/-- Sealing reaches OPEN lines alone: no line comes to be FREE, FAILED or COMMITTING, and none ceases to be. -/
theorem sealsTo_state_iff (k : LineNo) {st : LineState} (ho : st ≠ .open) (hs : st ≠ .sealed) :
    t.lines[k].state = st ↔ s.lines[k].state = st := by
  obtain he | ⟨hopen, hsealed⟩ := h.state k
  · rw [he]
  · rw [hopen, hsealed]
    exact iff_of_false hs.symm ho.symm

theorem sealsTo_open {k : LineNo} (hk : t.lines[k].state = .open) : s.lines[k].state = .open := by
  obtain he | ⟨-, ht⟩ := h.state k
  · rwa [← he]
  · rw [ht] at hk
    cases hk

theorem sealsTo_sealed {k : LineNo} (hk : s.lines[k].state = .sealed) : t.lines[k].state = .sealed := by
  obtain he | ⟨ho, -⟩ := h.state k
  · rwa [he]
  · rw [ho] at hk
    cases hk

theorem sealsTo_keepsWithin : s.keepsWithin t :=
  ⟨by rw [h.ageList], fun k hk => ⟨fun hs => hk ((sealsTo_state_iff h k (by simp) (by simp)).2 hs), h.page k⟩,
    fun _ => sealsTo_open h⟩

theorem pagesInOrder_of_sealsTo (hs : s.pagesInOrder) (hl : t.linesLaw) : t.pagesInOrder :=
  pagesInOrder_of_keepsWithin hs hl (sealsTo_keepsWithin h)
    (failsTogether_of_keepsWithin hs.2.1 (sealsTo_keepsWithin h) fun k _ => sealsTo_state_iff h k (by simp) (by simp))

theorem coherent_of_sealsTo (hs : s.coherent) (hl : t.linesLaw) (hp : t.port = s.port ∨ t.port = .idle := by simp) :
    t.coherent :=
  coherent_of_keepsWithin hs hl (sealsTo_keepsWithin h) (fun k _ => sealsTo_state_iff h k (by simp) (by simp))
    (fun k hk => hk.imp (sealsTo_sealed h) (sealsTo_state_iff h k (by simp) (by simp)).2) hp

end Seals

/-- A change of one line that leaves its page and state. -/
theorem updateLine_sealsTo (s : State) (i : LineNo) {f : Line → Line} (hf : ∀ l, (f l).state = l.state ∧ (f l).page = l.page) :
    s.sealsTo (updateLine s i f) := by
  refine ⟨fun k => ?_, fun k => Or.inl ?_, rfl⟩ <;> rw [updateLine_get] <;> split
  · exact (hf _).2
  · rfl
  · exact (hf _).1
  · rfl

theorem sealLines_sealsTo (s : State) (is : List LineNo) : s.sealsTo (sealLines s is) := by
  refine ⟨fun k => ?_, fun k => ?_, by simp⟩ <;> rw [sealLines_get] <;> split
  · rfl
  · rfl
  · next hk => exact Or.inr ⟨hk.2, rfl⟩
  · exact Or.inl rfl

theorem sealLine_sealsTo (s : State) (i : LineNo) : s.sealsTo (sealLine s i) := sealLines_sealsTo s [i]

theorem sealIfFull_sealsTo (s : State) (i : LineNo) : s.sealsTo (sealIfFull s i) := by
  unfold sealIfFull
  split
  · exact sealLine_sealsTo s i
  · exact sealsTo_refl s

theorem pressureSeal_sealsTo (s : State) : s.sealsTo (pressureSeal s) := by
  unfold pressureSeal
  split
  · exact sealLine_sealsTo s _
  · exact sealsTo_refl s

theorem fillLine_sealsTo (s : State) (i : LineNo) (image : Page) : s.sealsTo (fillLine s i image) :=
  updateLine_sealsTo s i fun l => by split <;> exact ⟨rfl, rfl⟩

theorem ageLine_sealsTo (s : State) (i : LineNo) : s.sealsTo (ageLine s i) := by
  refine ⟨fun k => ?_, fun k => ?_, by simp⟩ <;> rw [ageLine_get] <;> split
  · rfl
  · rfl
  · dsimp only
    split
    · next hk => exact Or.inr ⟨hk.2, rfl⟩
    · exact Or.inl rfl
  · exact Or.inl rfl

theorem ageLines_sealsTo (s : State) : s.sealsTo (ageLines s) := by
  unfold ageLines
  generalize linesByAge s .open = is
  induction is generalizing s with
  | nil => exact sealsTo_refl s
  | cons i is ih => exact sealsTo_trans (ageLine_sealsTo s i) (ih (ageLine s i))

/-! ### Taking a write -/

/-- An OPEN or SEALED line has taken a write: a THROUGH write waits on the line, sealed, and a BUFFERED one is answered (R26, R27). -/
theorem acceptIntoLine_sealsTo (s : State) (i : LineNo) (t : Transaction) (k : AccessKind) :
    s.sealsTo (acceptIntoLine s i t k) := by
  have hu := updateLine_sealsTo s i (f := fun l => { l with through := true }) fun _ => ⟨rfl, rfl⟩
  have hs := sealsTo_trans hu (sealLine_sealsTo _ i)
  unfold acceptIntoLine
  split
  · exact ⟨hs.page, hs.state, hs.ageList⟩
  · exact ⟨fun _ => rfl, fun _ => Or.inl rfl, rfl⟩

theorem acceptIntoLine_coherent {s : State} (hl : s.linesLaw) (hp : s.pagesInOrder) {i : LineNo}
    (hi : s.lines[i].state = .open ∨ s.lines[i].state = .sealed) (t : Transaction) (k : AccessKind) :
    (acceptIntoLine s i t k).coherent := by
  have hnf : s.lines[i].state ≠ .free := by
    obtain hi | hi := hi <;> simp [-Fin.getElem_fin, hi]
  have hlt := acceptIntoLine_linesLaw hl hnf t k
  refine ⟨hlt, pagesInOrder_of_sealsTo (acceptIntoLine_sealsTo s i t k) hp hlt, ?_, ?_⟩
  · refine heldApart_of_port ?_
    unfold acceptIntoLine
    split <;> rfl
  · intro w kind n hport
    unfold acceptIntoLine at hport ⊢
    split at hport
    · next hk =>
      obtain ⟨-, -, rfl⟩ := PortState.commitWait.inj hport
      rw [if_pos hk]
      refine Or.inl ?_
      show (sealLine (updateLine s i fun l => { l with through := true }) i).lines[i].state = .sealed
      rw [sealLine_get, updateLine_get, if_pos rfl]
      obtain hi | hi := hi <;> simp [-Fin.getElem_fin, hi]
    · cases hport

theorem mergeWrite_sealsTo (s : State) (i : LineNo) (t : Transaction) (k : AccessKind) : s.sealsTo (mergeWrite s i t k) := by
  have hu := updateLine_sealsTo s i (f := fun l => { l with staged := putBytes l.staged (writesOf t) }) fun _ => ⟨rfl, rfl⟩
  exact sealsTo_trans (sealsTo_trans hu (sealIfFull_sealsTo _ i)) (acceptIntoLine_sealsTo _ i t k)

theorem mergeWrite_coherent {s : State} (h : s.coherent) {i : LineNo} (hi : s.lines[i].state = .open) (t : Transaction)
    (k : AccessKind) : (mergeWrite s i t k).coherent := by
  have hnf : s.lines[i].state ≠ .free := by simp [-Fin.getElem_fin, hi]
  have hu := updateLine_sealsTo s i (f := fun l => { l with staged := putBytes l.staged (writesOf t) }) fun _ => ⟨rfl, rfl⟩
  have hs := sealsTo_trans hu (sealIfFull_sealsTo _ i)
  have hul := updateLine_linesLaw h.1 hnf (f := fun l => { l with staged := putBytes l.staged (writesOf t) }) fun _ => ⟨rfl, rfl⟩
  have hsl := sealIfFull_linesLaw hul i
  refine acceptIntoLine_coherent hsl (pagesInOrder_of_sealsTo hs h.2.1 hsl) ?_ t k
  obtain he | ⟨-, hsealed⟩ := hs.state i
  · exact Or.inl (he.trans hi)
  · exact Or.inr hsealed

/-- A line opens for a page that has no FAILED and no OPEN line: it is the page's newest, and its only OPEN one (R22, R24, R98). -/
theorem openLine_pagesInOrder {s : State} (hl : s.linesLaw) (h : s.pagesInOrder) {i : LineNo} (hi : s.lines[i].state = .free)
    {p : PageNo} (hb : isBlocked s p = false)
    (hno : ∀ k : LineNo, s.lines[k].state = .open → s.lines[k].page ≠ some p) (w : List (Fin 64 × Byte)) :
    (openLine s i p w).pagesInOrder := by
  obtain ⟨hone, hfail, hnew⟩ := h
  have hself : (openLine s i p w).lines[i].state = .open ∧ (openLine s i p w).lines[i].page = some p := by
    rw [openLine_get, if_pos rfl]
    exact ⟨rfl, rfl⟩
  have hother : ∀ k : LineNo, k ≠ i → (openLine s i p w).lines[k] = s.lines[k] := fun k hk => by rw [openLine_get, if_neg hk]
  have hopen : ∀ k : LineNo, k ≠ i → (openLine s i p w).lines[k].state = .open → (openLine s i p w).lines[k].page ≠ some p :=
    fun k hk ho => by
      rw [hother k hk] at ho ⊢
      exact hno k ho
  have hfree : ∀ k ∈ s.ageList, k ≠ i := fun k hk hki => (mem_ageList_iff hl).1 hk (hki ▸ hi)
  refine ⟨fun a b ha hb' hab => ?_, fun a b ha hb' hab => ?_, ?_⟩
  · by_cases hai : a = i
    · by_cases hbi : b = i
      · rw [hai, hbi]
      · exact absurd (hab.symm.trans (hai ▸ hself.2)) (hopen b hbi hb')
    · by_cases hbi : b = i
      · exact absurd (hab.trans (hbi ▸ hself.2)) (hopen a hai ha)
      · rw [hother a hai] at ha hab
        rw [hother b hbi] at hb' hab
        exact hone a b ha hb' hab
  · have hai : a ≠ i := fun he => by
      rw [he, hself.1] at ha
      cases ha
    rw [hother a hai] at ha hab
    have hbi : b ≠ i := fun he => by
      rw [he, hself.2] at hab
      rw [isBlocked_iff.2 ⟨a, ha, hab⟩] at hb
      cases hb
    rw [hother b hbi] at hb' hab ⊢
    exact hfail a b ha hb' hab
  · refine List.pairwise_append.2 ⟨hnew.imp_of_mem fun {a b} ha hb' hpair => ?_, List.pairwise_singleton _ _, fun a ha b hb' => ?_⟩
    · rw [hother a (hfree a ha), hother b (hfree b hb')]
      exact hpair
    · rw [List.mem_singleton.1 hb', hself.2]
      exact fun ho hp => hopen a (hfree a ha) ho hp.symm

/-- The write that opens its line is answered, or waits on the line (R24, R26, R27). -/
theorem openForWrite_coherent {s : State} (h : s.coherent) {i : LineNo} (hi : s.lines[i].state = .free) {t : Transaction}
    (hb : isBlocked s (transactionPage t) = false)
    (hno : ∀ k : LineNo, s.lines[k].state = .open → s.lines[k].page ≠ some (transactionPage t)) (k : AccessKind) :
    (openForWrite s i t k).coherent := by
  refine acceptIntoLine_coherent (openLine_linesLaw h.1 hi _ _) (openLine_pagesInOrder h.1 h.2.1 hi hb hno _) (Or.inl ?_) t k
  rw [openLine_get, if_pos rfl]

/-- A step after which the port is IDLE or holds a transaction, a write for a line only where its page has no OPEN line. -/
theorem coherent_of_port {s t : State} (h : s.coherent) (hheld : t.heldApart) (hwait : t.waitLaw)
    (hl : t.lines = s.lines := by simp) (ha : t.ageList = s.ageList := by simp)
    (hc : t.commitQueue = s.commitQueue := by simp) : t.coherent := by
  have hs : s.sealsTo t := ⟨fun k => by rw [hl], fun k => by rw [hl]; exact Or.inl rfl, ha⟩
  have hlt := linesLaw_of_frame h.1 hl ha hc
  exact ⟨hlt, pagesInOrder_of_sealsTo hs h.2.1 hlt, hheld, hwait⟩

theorem waitLaw_of_idle {s : State} (hp : s.port = .idle) : s.waitLaw := fun t k i hport => by
  rw [hp] at hport
  cases hport

theorem waitLaw_of_held {s : State} {t : Transaction} {k : AccessKind} {c : HoldCause} {w : Nat} (hp : s.port = .held t k c w) :
    s.waitLaw := fun t k i hport => by
  rw [hp] at hport
  cases hport

theorem coherent_of_idle {s t : State} (h : s.coherent) (hp : t.port = .idle := by simp) (hl : t.lines = s.lines := by simp)
    (ha : t.ageList = s.ageList := by simp) (hc : t.commitQueue = s.commitQueue := by simp) : t.coherent :=
  coherent_of_port h (heldApart_of_port (by simp [State.holdsForLine, hp])) (waitLaw_of_idle hp) hl ha hc

theorem refuse_coherent {s : State} (h : s.coherent) (t : Transaction) (r : RefusedReason) : (refuse s t r).coherent :=
  coherent_of_idle h rfl

theorem beginHold_coherent {s : State} (h : s.coherent) (t : Transaction) (k : AccessKind) {c : HoldCause} (hc : c ≠ .line) :
    (beginHold s t k c).coherent := by
  refine coherent_of_port h (fun w kind n hport => ?_) (waitLaw_of_held rfl)
  exact absurd (PortState.held.inj hport).2.2.1 hc

theorem takeWrite_coherent {s : State} (h : s.coherent) (t : Transaction) (k : AccessKind) : (takeWrite s t k).coherent := by
  unfold takeWrite
  split
  · exact refuse_coherent h t _
  · next hb =>
    split
    · next i hi => exact mergeWrite_coherent h (openLineOf_spec hi).1 t k
    · next hnone =>
      have hno : ∀ k : LineNo, s.lines[k].state = .open → s.lines[k].page ≠ some (transactionPage t) := fun k ho hp =>
        openLineOf_eq_none.1 hnone k ⟨ho, hp⟩
      split
      · next i hi => exact openForWrite_coherent h (freeLineNo_spec hi).1 (by simpa using hb) hno k
      · have hs := pressureSeal_sealsTo s
        have hsealed := coherent_of_sealsTo hs h (pressureSeal_linesLaw h.1)
        refine coherent_of_port hsealed (fun w kind n hport i hi => ?_) (waitLaw_of_held rfl)
        obtain ⟨rfl, -⟩ := PortState.held.inj hport
        rw [show (beginHold (pressureSeal s) t k .line).lines = (pressureSeal s).lines from rfl] at hi ⊢
        rw [hs.page]
        exact hno i (sealsTo_open hs hi)

theorem takeRead_coherent {s : State} (h : s.coherent) (t : Transaction) (k : AccessKind) : (takeRead s t k).coherent := by
  unfold takeRead
  split
  · exact coherent_of_idle h (by simp [serveRead])
  · exact beginHold_coherent h t k (by simp)

theorem continueChecks_coherent {s : State} (h : s.coherent) (t : Transaction) (k : AccessKind) :
    (continueChecks s t k).coherent := by
  unfold continueChecks
  repeat' split
  · exact takeRead_coherent h t k
  · exact coherent_of_idle h
  · exact refuse_coherent h t _
  · exact takeWrite_coherent h t k

theorem takeTransaction_coherent {s : State} (h : s.coherent) (t : Transaction) : (takeTransaction s t).coherent := by
  unfold takeTransaction
  repeat' split
  · exact refuse_coherent h t _
  · exact refuse_coherent h t _
  · exact refuse_coherent h t _
  · exact beginHold_coherent h t _ (by simp)
  · exact continueChecks_coherent h t _

theorem startHoldResume_coherent {s : State} (h : s.coherent) : (startHoldResume s).coherent := by
  unfold startHoldResume
  split
  · split
    · exact h
    · exact continueChecks_coherent h _ _
  · exact h

/-- A write held for a line finds no OPEN line of its page, and opens its own (R29). -/
theorem retakeHeldWrite_coherent {s : State} (h : s.coherent) : (retakeHeldWrite s).coherent := by
  unfold retakeHeldWrite
  split
  · next t k w hport =>
    split
    · exact h
    · next i hi =>
      split
      · exact refuse_coherent h t _
      · next hb =>
        split
        · exact refuse_coherent h t _
        · exact openForWrite_coherent h (freeLineNo_spec hi).1 (by simpa using hb) (h.2.2.1 t k w hport) k
  · exact h

/-! ### Freeing, failing and retrying -/

/-- The line a THROUGH write waits on may have left its job: it is not OPEN (R26). -/
def State.waitsOnUsed (s : State) : Prop := ∀ t k i, s.port = .commitWait t k i → s.lines[i].state ≠ .open

theorem waitsOnUsed_of_waitLaw {s : State} (h : s.waitLaw) : s.waitsOnUsed := fun t k i hp ho => by
  obtain hi | hi := h t k i hp <;> rw [hi] at ho <;> cases ho

theorem answerThrough_sealsTo (s : State) : s.sealsTo (answerThrough s) := by
  unfold answerThrough
  repeat' split
  · exact ⟨fun _ => rfl, fun _ => Or.inl rfl, rfl⟩
  · next i _ _ _ =>
    have hu := updateLine_sealsTo s i (f := fun l => { l with through := false }) fun _ => ⟨rfl, rfl⟩
    exact ⟨hu.page, hu.state, hu.ageList⟩
  · exact sealsTo_refl s
  · exact sealsTo_refl s

/-- The answer to a THROUGH write whose line is FREE or FAILED restores the law of the wait (R26, R134). -/
theorem answerThrough_coherent {s : State} (hl : s.linesLaw) (hp : s.pagesInOrder) (hh : s.heldApart) (hw : s.waitsOnUsed) :
    (answerThrough s).coherent := by
  have hlt := answerThrough_linesLaw hl
  by_cases hwait : s.waitLaw
  · rw [answerThrough_waits hwait]
    exact ⟨hl, hp, hh, hwait⟩
  · unfold State.waitLaw at hwait
    push Not at hwait
    obtain ⟨t, k, i, hport, hns, hnc⟩ := hwait
    have hidle : (answerThrough s).port = .idle := by
      have hno := hw t k i hport
      unfold answerThrough
      rw [hport]
      dsimp only
      cases hst : s.lines[i].state <;> simp_all [-Fin.getElem_fin]
    exact ⟨hlt, pagesInOrder_of_sealsTo (answerThrough_sealsTo s) hp hlt, heldApart_of_port (by simp [State.holdsForLine, hidle]), waitLaw_of_idle hidle⟩

/-- Lines that a step frees leave their pages to the others. -/
theorem freeLines_keepsWithin {s : State} (h : s.linesLaw) (is : List LineNo) :
    s.keepsWithin (is.foldl freeLine s) ∧
    ∀ k : LineNo, (is.foldl freeLine s).lines[k].state ≠ .free → (is.foldl freeLine s).lines[k] = s.lines[k] := by
  have hkept : ∀ k : LineNo, (is.foldl freeLine s).lines[k].state ≠ .free → (is.foldl freeLine s).lines[k] = s.lines[k] :=
    fun k hk => by
      rw [freeLines_get] at hk ⊢
      split at hk
      · exact absurd rfl hk
      · next hm => rw [if_neg hm]
  refine ⟨⟨?_, fun k hk => ?_, fun k ho => ?_⟩, hkept⟩
  · rw [freeLines_ageList s is h.1]
    exact List.filter_sublist
  · have he := hkept k hk
    exact ⟨he ▸ hk, by rw [he]⟩
  · have he := hkept k (by rw [ho]; simp)
    exact he ▸ ho

theorem freeLines_pagesInOrder {s : State} (h : s.linesLaw) (hp : s.pagesInOrder) (is : List LineNo) :
    (is.foldl freeLine s).pagesInOrder := by
  obtain ⟨hk, hkept⟩ := freeLines_keepsWithin h is
  exact pagesInOrder_of_keepsWithin hp (freeLines_linesLaw h is) hk
    (failsTogether_of_keepsWithin hp.2.1 hk fun k hu => by rw [hkept k hu])

/-- Freed lines, and the answer to a THROUGH write that waited on one (R37, R54). -/
theorem answerThrough_freeLines_coherent {s : State} (h : s.coherent) (is : List LineNo) :
    (answerThrough (is.foldl freeLine s)).coherent := by
  obtain ⟨hl, hp, hheld, hwait⟩ := h
  refine answerThrough_coherent (freeLines_linesLaw hl is) (freeLines_pagesInOrder hl hp is)
    (heldApart_of_keepsWithin hheld (freeLines_keepsWithin hl is).1 (by simp)) fun t k i hport ho => ?_
  rw [freeLines_get] at ho
  split at ho
  · cases ho
  · exact waitsOnUsed_of_waitLaw hwait t k i (by simpa using hport) ho

theorem handBackRetired_coherent {s : State} (h : s.coherent) (is : List LineNo) : (handBackRetired s is).coherent :=
  retakeHeldWrite_coherent (answerThrough_freeLines_coherent h _)

/-- FAILED lines are waited on by no THROUGH write: freeing them leaves the wait (R102). -/
theorem discardLines_coherent {s : State} (h : s.coherent) (p : PageNo) : (discardLines s p).coherent := by
  obtain ⟨hl, hp, hheld, hwait⟩ := h
  obtain ⟨hk, hkept⟩ := freeLines_keepsWithin hl (failedLinesOf s p)
  refine retakeHeldWrite_coherent ⟨freeLines_linesLaw hl _, freeLines_pagesInOrder hl hp _,
    heldApart_of_keepsWithin hheld hk (by simp), waitLaw_of_lines hwait (by simp) fun k hst => ?_⟩
  have hm : k ∉ failedLinesOf s p := fun hm => by
    rw [mem_failedLinesOf hm] at hst
    obtain hst | hst := hst <;> cases hst
  rwa [freeLines_get, if_neg hm]

/-- Failing lines with all the others of their pages keeps a page's lines failing together; a THROUGH write that waits on one is
answered (R97, R98, R105). -/
theorem answerThrough_failLines_coherent {s : State} (h : s.coherent) {is : List LineNo} (his : ∀ k ∈ is, s.lines[k].state ≠ .free)
    (hall : ∀ i ∈ is, ∀ k : LineNo, s.lines[k].state ≠ .free → s.lines[i].page = s.lines[k].page →
      s.lines[k].state = .failed ∨ k ∈ is) : (answerThrough (is.foldl failLine s)).coherent := by
  obtain ⟨hl, hp, hheld, hwait⟩ := h
  have hpage : ∀ k : LineNo, (is.foldl failLine s).lines[k].page = s.lines[k].page := fun k => by
    rw [failLines_get]
    split <;> rfl
  have hnf : ∀ k : LineNo, (is.foldl failLine s).lines[k].state ≠ .free → s.lines[k].state ≠ .free := fun k hk => by
    rw [failLines_get] at hk
    split at hk
    · next hm => exact his k hm
    · exact hk
  have hopen : ∀ k : LineNo, (is.foldl failLine s).lines[k].state = .open → s.lines[k].state = .open := fun k hk => by
    rw [failLines_get] at hk
    split at hk
    · cases hk
    · exact hk
  have hfail : (is.foldl failLine s).failsTogether := fun i k hi hk hik => by
    rw [hpage, hpage] at hik
    rw [failLines_get] at hi ⊢
    split
    · rfl
    · next hkm =>
      split at hi
      · next him => exact (hall i him k (hnf k hk) hik).resolve_right hkm
      · exact hp.2.1 i k hi (hnf k hk) hik
  have hk : s.keepsWithin (is.foldl failLine s) := ⟨by simp, fun k hk => ⟨hnf k hk, hpage k⟩, hopen⟩
  have hlt := failLines_linesLaw hl his
  exact answerThrough_coherent hlt (pagesInOrder_of_keepsWithin hp hlt hk hfail) (heldApart_of_keepsWithin hheld hk (by simp))
    fun t kind i hport ho => waitsOnUsed_of_waitLaw hwait t kind i (by simpa using hport) (hopen i ho)

/-- A line in use that is neither COMMITTING nor FAILED waits: it is OPEN or SEALED. -/
theorem waiting_of_used {st : LineState} (hf : st ≠ .free) (hc : st ≠ .committing) (hfail : st ≠ .failed) :
    st = .open ∨ st = .sealed := by
  cases st <;> simp_all

theorem handBackFailed_coherent {s : State} (h : s.coherent) {j : Job}
    (hj : ∀ k : LineNo, s.lines[k].state = .committing → k ∈ jobLines j) : (handBackFailed s (jobLines j)).coherent := by
  have hheld : ∀ k : LineNo, s.lines[k].state = .committing → k ∈ committingIn s (jobLines j) := fun k hk =>
    List.mem_filter.2 ⟨hj k hk, beq_iff_eq.2 hk⟩
  unfold handBackFailed
  rw [← List.foldl_append]
  refine answerThrough_failLines_coherent h (fun k hk => ?_) fun i hi k hk hik => ?_
  · exact (List.mem_append.1 hk).elim committingIn_not_free waitingLines_not_free
  · obtain ⟨m, hm, p, hmp, hip⟩ : ∃ m : LineNo, s.heldBy j m = true ∧ ∃ p, s.lines[m].page = some p ∧ s.lines[i].page = some p := by
      obtain hi | hi := List.mem_append.1 hi
      · obtain ⟨p, hp⟩ := Option.isSome_iff_exists.1 (page_isSome_of_not_free h.1 (committingIn_not_free hi))
        exact ⟨i, (mem_committingIn s j i).1 hi, p, hp, hp⟩
      · obtain ⟨m, hm, p, hp, hc⟩ := (mem_cascadeOf s j i).1 hi
        simp only [State.cascaded, Bool.and_eq_true, beq_iff_eq] at hc
        exact ⟨m, hm, p, hp, hc.2⟩
    by_cases hfail : s.lines[k].state = .failed
    · exact Or.inl hfail
    · refine Or.inr (List.mem_append.2 ?_)
      by_cases hc : s.lines[k].state = .committing
      · exact Or.inl (hheld k hc)
      · refine Or.inr ((mem_cascadeOf s j k).2 ⟨m, hm, p, hmp, ?_⟩)
        have hw := waiting_of_used hk hc hfail
        simp only [State.cascaded, Bool.and_eq_true, Bool.or_eq_true, beq_iff_eq]
        exact ⟨hw, hik ▸ hip⟩

/-- With no line COMMITTING the entry cascade fails every line of a page it reaches (R105). -/
theorem entryCascade_coherent {s : State} (h : s.coherent) (hc : ∀ k : LineNo, s.lines[k].state ≠ .committing) (sec : SectorNo) :
    (entryCascade s sec).coherent := by
  refine answerThrough_failLines_coherent h (fun _ hk => waitingLines_not_free hk) fun i hi k hk hik => ?_
  by_cases hfail : s.lines[k].state = .failed
  · exact Or.inl hfail
  · have hw := waiting_of_used hk (hc k) hfail
    have hpage := (Bool.and_eq_true_iff.1 (List.mem_filter.1 hi).2).2
    refine Or.inr (List.mem_filter.2 ⟨List.mem_finRange k, Bool.and_eq_true_iff.2 ⟨?_, hik ▸ hpage⟩⟩)
    simpa [-Fin.getElem_fin] using hw

theorem mem_failedLinesOf_iff {s : State} (h : s.linesLaw) {p : PageNo} {k : LineNo} :
    k ∈ failedLinesOf s p ↔ s.lines[k].state = .failed ∧ s.lines[k].page = some p := by
  unfold failedLinesOf
  rw [List.mem_filter, mem_linesByAge_iff h (by simp), beq_iff_eq]

/-- All FAILED lines of the page return to the queue together (R98, R101). -/
theorem retryLines_coherent {s : State} (h : s.coherent) (p : PageNo) : (retryLines s p).coherent := by
  obtain ⟨hl, hp, hheld, hwait⟩ := h
  have hget : ∀ k : LineNo, (retryLines s p).lines[k] =
      if k ∈ failedLinesOf s p then { s.lines[k] with state := .sealed } else s.lines[k] := retryLinesFold_get s _
  have hin : ∀ k : LineNo, k ∈ failedLinesOf s p ↔ s.lines[k].state = .failed ∧ s.lines[k].page = some p := fun _ =>
    mem_failedLinesOf_iff hl
  have hpage : ∀ k : LineNo, (retryLines s p).lines[k].page = s.lines[k].page := fun k => by
    rw [hget]
    split <;> rfl
  have hk : s.keepsWithin (retryLines s p) := by
    refine ⟨by simp, fun k hk => ⟨fun hs => ?_, hpage k⟩, fun k ho => ?_⟩
    · rw [hget, if_neg fun hm => by rw [((hin k).1 hm).1] at hs; cases hs] at hk
      exact hk hs
    · rw [hget] at ho
      split at ho
      · cases ho
      · exact ho
  have hfail : (retryLines s p).failsTogether := fun i k hi hkf hik => by
    rw [hpage, hpage] at hik
    rw [hget] at hi ⊢
    split at hi
    · cases hi
    · next hni =>
      have hsk := hp.2.1 i k hi (hk.used k hkf).1 hik
      rw [if_neg fun hm => hni ((hin i).2 ⟨hi, hik.trans ((hin k).1 hm).2⟩)]
      exact hsk
  have hlt := retryLines_linesLaw hl p
  refine ⟨hlt, pagesInOrder_of_keepsWithin hp hlt hk hfail, heldApart_of_keepsWithin hheld hk (by simp),
    waitLaw_of_lines hwait (by simp) fun k hst => ?_⟩
  rw [hget]
  split
  · exact Or.inl rfl
  · exact hst

end Sys2Proof.Machine
end

section
/-! PROOF. The law of the job and its lines, and with it the laws of the lines, the pages and the wait at every step (R21, R42, R46, R54,
R71, R79). -/

namespace Sys2Proof.Machine

set_option Elab.async false

/-! ### The lines of the job -/

/-- Every COMMITTING line is held by job `j` and lies in its sector (R42). -/
def State.heldFor (s : State) (j : Job) : Prop :=
  ∀ i : LineNo, s.lines[i].state = .committing →
    j.holdsLines = true ∧ i ∈ jobLines j ∧ ∀ p ∈ s.lines[i].page, sectorOf p = j.sector

/-- No line is COMMITTING. -/
def State.noneHeld (s : State) : Prop := ∀ i : LineNo, s.lines[i].state ≠ .committing

theorem jobLaw_of_job {s : State} {j : Job} (hj : s.job = some j) : s.jobLaw ↔ j.fits ∧ s.heldFor j := by
  unfold State.jobLaw State.heldFor Job.fits
  simp only [hj, Option.mem_some_iff, forall_eq', exists_eq_left']

theorem jobLaw_of_no_job {s : State} (hj : s.job = none) : s.jobLaw ↔ s.noneHeld := by
  unfold State.jobLaw State.noneHeld
  simp [-Fin.getElem_fin, hj]

/-- From `s` to `t` no line comes to be COMMITTING, and those that stay so keep their pages. -/
def State.takesNone (s t : State) : Prop :=
  ∀ k : LineNo, t.lines[k].state = .committing → s.lines[k].state = .committing ∧ t.lines[k].page = s.lines[k].page

theorem takesNone_refl (s : State) : s.takesNone s := fun _ hk => ⟨hk, rfl⟩

theorem takesNone_trans {s t u : State} (h : s.takesNone t) (h' : t.takesNone u) : s.takesNone u := fun k hk => by
  obtain ⟨ht, hpu⟩ := h' k hk
  obtain ⟨hs, hpt⟩ := h k ht
  exact ⟨hs, hpu.trans hpt⟩

theorem takesNone_of_sealsTo {s t : State} (h : s.sealsTo t) : s.takesNone t := fun k hk =>
  ⟨(sealsTo_state_iff h k (by simp) (by simp)).1 hk, h.page k⟩

theorem takesNone_of_lines {s t : State} (hl : t.lines = s.lines := by simp) : s.takesNone t := fun k hk => by
  rw [hl] at hk ⊢
  exact ⟨hk, rfl⟩

theorem noneHeld_of_takesNone {s t : State} (h : s.noneHeld) (ht : s.takesNone t) : t.noneHeld := fun k hk => h k (ht k hk).1

theorem jobLaw_of_takesNone {s t : State} (h : s.jobLaw) (ht : s.takesNone t) (hj : t.job = s.job) : t.jobLaw := by
  obtain ⟨hfits, hheld⟩ := h
  refine ⟨hj ▸ hfits, fun k hk => ?_⟩
  obtain ⟨hs, hp⟩ := ht k hk
  rw [hj, hp]
  exact hheld k hs

theorem freeLines_takesNone (s : State) (is : List LineNo) : s.takesNone (is.foldl freeLine s) := fun k hk => by
  rw [freeLines_get] at hk ⊢
  split at hk
  · cases hk
  · next hm =>
    rw [if_neg hm]
    exact ⟨hk, rfl⟩

theorem failLines_takesNone (s : State) (is : List LineNo) : s.takesNone (is.foldl failLine s) := fun k hk => by
  rw [failLines_get] at hk ⊢
  split at hk
  · cases hk
  · next hm =>
    rw [if_neg hm]
    exact ⟨hk, rfl⟩

theorem retryLines_takesNone (s : State) (p : PageNo) : s.takesNone (retryLines s p) := fun k hk => by
  rw [retryLines, retryLinesFold_get] at hk ⊢
  split at hk
  · cases hk
  · next hm =>
    rw [if_neg hm]
    exact ⟨hk, rfl⟩

theorem openForWrite_takesNone (s : State) (i : LineNo) (t : Transaction) (k : AccessKind) :
    s.takesNone (openForWrite s i t k) := by
  refine takesNone_trans (t := openLine s i (transactionPage t) (writesOf t)) (fun m hm => ?_)
    (takesNone_of_sealsTo (acceptIntoLine_sealsTo _ i t k))
  rw [openLine_get] at hm ⊢
  split at hm
  · cases hm
  · next hmi =>
    rw [if_neg hmi]
    exact ⟨hm, rfl⟩

theorem retakeHeldWrite_takesNone (s : State) : s.takesNone (retakeHeldWrite s) := by
  unfold retakeHeldWrite
  repeat' split
  · exact takesNone_refl s
  · exact takesNone_of_lines
  · exact takesNone_of_lines
  · exact openForWrite_takesNone s _ _ _
  · exact takesNone_refl s

theorem takeWrite_takesNone (s : State) (t : Transaction) (k : AccessKind) : s.takesNone (takeWrite s t k) := by
  unfold takeWrite
  repeat' split
  · exact takesNone_of_lines
  · exact takesNone_of_sealsTo (mergeWrite_sealsTo s _ t k)
  · exact openForWrite_takesNone s _ t k
  · exact takesNone_trans (takesNone_of_sealsTo (pressureSeal_sealsTo s)) takesNone_of_lines

theorem continueChecks_takesNone (s : State) (t : Transaction) (k : AccessKind) : s.takesNone (continueChecks s t k) := by
  unfold continueChecks
  repeat' split
  · exact takesNone_of_lines
  · exact takesNone_of_lines
  · exact takesNone_of_lines
  · exact takeWrite_takesNone s t k

theorem takeTransaction_takesNone (s : State) (t : Transaction) : s.takesNone (takeTransaction s t) := by
  unfold takeTransaction
  repeat' split
  · exact takesNone_of_lines
  · exact takesNone_of_lines
  · exact takesNone_of_lines
  · exact takesNone_of_lines
  · exact continueChecks_takesNone s t _

theorem startHoldResume_takesNone (s : State) : s.takesNone (startHoldResume s) := by
  unfold startHoldResume
  split
  · split
    · exact takesNone_refl s
    · exact continueChecks_takesNone s _ _
  · exact takesNone_refl s

theorem answerThrough_takesNone (s : State) : s.takesNone (answerThrough s) := takesNone_of_sealsTo (answerThrough_sealsTo s)

/-! ### The laws between steps, with a job in hand, and once its lines are back -/

/-- The laws of the lines, the job, the pages and the wait. -/
def State.inCustody (s : State) : Prop := s.coherent ∧ s.jobLaw

/-- The laws with job `j` in hand. -/
def State.heldCoherent (s : State) (j : Job) : Prop := s.coherent ∧ j.fits ∧ s.heldFor j

/-- The laws once no line is COMMITTING. -/
def State.allBack (s : State) : Prop := s.coherent ∧ s.noneHeld

theorem inCustody_iff {s : State} : s.inCustody ↔ s.linesLaw ∧ s.jobLaw ∧ s.pagesLaw ∧ s.waitLaw := by
  unfold State.inCustody State.coherent
  rw [pagesLaw_iff]
  tauto

theorem inCustody_of_takesNone {s t : State} (h : s.inCustody) (hc : t.coherent) (ht : s.takesNone t)
    (hj : t.job = s.job := by simp) : t.inCustody := ⟨hc, jobLaw_of_takesNone h.2 ht hj⟩

theorem inCustody_of_framed {s t : State} (h : s.inCustody) (hf : s.framed t) (hj : t.job = s.job) : t.inCustody :=
  inCustody_of_takesNone h (coherent_of_framed h.1 hf) (takesNone_of_lines hf.lines) hj

theorem inCustody_of_sealsTo {s t : State} (h : s.inCustody) (hs : s.sealsTo t) (hl : t.linesLaw)
    (hp : t.port = s.port ∨ t.port = .idle := by simp) (hj : t.job = s.job := by simp) : t.inCustody :=
  inCustody_of_takesNone h (coherent_of_sealsTo hs h.1 hl hp) (takesNone_of_sealsTo hs) hj

theorem allBack_of_takesNone {s t : State} (h : s.noneHeld) (hc : t.coherent) (ht : s.takesNone t) : t.allBack :=
  ⟨hc, noneHeld_of_takesNone h ht⟩

/-- The job at a later step holds what it held. -/
theorem heldCoherent_of_leadsTo {s t : State} {j j' : Job} (h : s.heldCoherent j) (hl : j.leadsTo j') (hf : s.framed t) :
    t.heldCoherent j' := by
  obtain ⟨hc, hfits, hheld⟩ := h
  obtain ⟨hfits', hholds⟩ := hl.fits hfits
  refine ⟨coherent_of_framed hc hf, hfits', fun k hk => ?_⟩
  rw [hf.lines] at hk ⊢
  obtain ⟨hjl, hmem, hsec⟩ := hheld k hk
  refine ⟨hholds hjl, ?_, hl.sector ▸ hsec⟩
  unfold jobLines
  rwa [hl.head, hl.members]

theorem heldCoherent_of_sealsTo {s t : State} {j : Job} (h : s.heldCoherent j) (hs : s.sealsTo t) (hl : t.linesLaw)
    (hp : t.port = s.port ∨ t.port = .idle := by simp) : t.heldCoherent j := by
  obtain ⟨hc, hfits, hheld⟩ := h
  refine ⟨coherent_of_sealsTo hs hc hl hp, hfits, fun k hk => ?_⟩
  obtain ⟨hk', hpage⟩ := takesNone_of_sealsTo hs k hk
  rw [hpage]
  exact hheld k hk'

/-! ### Taking lines, and giving them back -/

/-- SEALED lines that a job takes (R21, R71). -/
theorem takeLines_coherent {s : State} (h : s.coherent) {is : List LineNo} (his : ∀ k ∈ is, s.lines[k].state = .sealed) :
    (is.foldl takeLine s).coherent := by
  have hnf : ∀ k ∈ is, s.lines[k].state ≠ .free := fun k hk => by
    rw [his k hk]
    simp
  have hpage : ∀ k : LineNo, (is.foldl takeLine s).lines[k].page = s.lines[k].page := fun k => by
    rw [takeLines_get]
    split <;> rfl
  have hstate : ∀ k : LineNo, k ∉ is → (is.foldl takeLine s).lines[k].state = s.lines[k].state := fun k hk => by
    rw [takeLines_get, if_neg hk]
  have htaken : ∀ k : LineNo, k ∈ is → (is.foldl takeLine s).lines[k].state = .committing := fun k hk => by
    rw [takeLines_get, if_pos hk]
  refine coherent_of_keepsWithin h (takeLines_linesLaw h.1 hnf) ⟨by simp, fun k hk => ⟨?_, hpage k⟩, fun k ho => ?_⟩
    (fun k _ => ?_) fun k hst => ?_
  · by_cases hm : k ∈ is
    · exact hnf k hm
    · exact hstate k hm ▸ hk
  · by_cases hm : k ∈ is
    · rw [htaken k hm] at ho
      cases ho
    · exact hstate k hm ▸ ho
  · by_cases hm : k ∈ is
    · rw [htaken k hm, his k hm]
      simp
    · rw [hstate k hm]
  · by_cases hm : k ∈ is
    · exact Or.inr (htaken k hm)
    · rwa [hstate k hm]

/-- MERGE takes the SEALED lines of the rewrite's sector as its members (R71). -/
theorem absorbed_heldCoherent {s : State} {j : Job} {k : Fin 16} (h : s.heldCoherent j) (hst : j.stage = .load k) :
    ((linesToAbsorb s j.sector).foldl takeLine s).heldCoherent { j with members := j.members ++ linesToAbsorb s j.sector } := by
  obtain ⟨hc, hfits, hheld⟩ := h
  have hk : j.kind = .rewrite := kind_rewrite_of_fits (fun _ => by rw [hst]; rfl) hfits
  refine ⟨takeLines_coherent hc fun i hi => (mem_commitQueue_iff hc.1).1 (List.mem_filter.1 hi).1, hfits, fun i hi => ?_⟩
  rw [takeLines_get] at hi ⊢
  split at hi
  · next hm =>
    rw [if_pos hm]
    refine ⟨by simp [Job.holdsLines, hk, hst], by simp [jobLines, hm], fun p hp => ?_⟩
    obtain ⟨-, hsec⟩ := List.mem_filter.1 hm
    rw [show s.lines[i].page = some p from hp] at hsec
    simpa using hsec
  · next hm =>
    rw [if_neg hm]
    obtain ⟨hl, hmem, hsec⟩ := hheld i hi
    refine ⟨hl, ?_, hsec⟩
    unfold jobLines at hmem ⊢
    rw [← List.append_assoc]
    exact List.mem_append_left _ hmem

theorem handBackRetired_allBack {s : State} {j : Job} (h : s.heldCoherent j) : (handBackRetired s (jobLines j)).allBack := by
  obtain ⟨hc, -, hheld⟩ := h
  have hfreed : ((committingIn s (jobLines j)).foldl freeLine s).noneHeld := fun k hk => by
    rw [freeLines_get] at hk
    split at hk
    · cases hk
    · next hm => exact hm (List.mem_filter.2 ⟨(hheld k hk).2.1, beq_iff_eq.2 hk⟩)
  exact allBack_of_takesNone hfreed (handBackRetired_coherent hc _)
    (takesNone_trans (answerThrough_takesNone _) (retakeHeldWrite_takesNone _))

theorem handBackFailed_allBack {s : State} {j : Job} (h : s.heldCoherent j) : (handBackFailed s (jobLines j)).allBack := by
  obtain ⟨hc, -, hheld⟩ := h
  have hfailed : ((committingIn s (jobLines j)).foldl failLine s).noneHeld := fun k hk => by
    rw [failLines_get] at hk
    split at hk
    · cases hk
    · next hm => exact hm (List.mem_filter.2 ⟨(hheld k hk).2.1, beq_iff_eq.2 hk⟩)
  exact allBack_of_takesNone hfailed (handBackFailed_coherent hc fun k hk => (hheld k hk).2.1)
    (takesNone_trans (failLines_takesNone _ _) (answerThrough_takesNone _))

/-! ### The start of a job -/

/-- A COMMIT holds the head of the queue, SEALED before, and lies in its sector (R21, R46). -/
theorem startCommit_inCustody {s : State} (h : s.inCustody) (hj : s.job = none) {i : LineNo} {p : PageNo}
    (hi : s.lines[i].state = .sealed) (hp : s.lines[i].page = some p) : (startCommit s i p).inCustody := by
  have hnone : s.noneHeld := (jobLaw_of_no_job hj).1 h.2
  have hsealed : ∀ k ∈ [i], s.lines[k].state = .sealed := fun k hk => by rwa [List.mem_singleton.1 hk]
  have hc : (startCommit s i p).coherent :=
    coherent_of_framed (takeLines_coherent h.1 hsealed) (framed_of_eq rfl rfl rfl rfl rfl rfl (Or.inl rfl) id)
  refine ⟨hc, (jobLaw_of_job (j := { freshJob .commit (sectorOf p) .preRead with head := some i, page := some p }) rfl).2
    ⟨rfl, fun k hk => ?_⟩⟩
  rw [show (startCommit s i p).lines = ([i].foldl takeLine s).lines from rfl] at hk ⊢
  rw [takeLines_get] at hk ⊢
  split at hk
  · next hm =>
    obtain rfl := List.mem_singleton.1 hm
    rw [if_pos hm]
    refine ⟨rfl, by simp [jobLines], fun q hq => ?_⟩
    obtain rfl : p = q := Option.some.inj (hp.symm.trans hq)
    rfl
  · exact absurd hk (hnone k)

theorem startChoice_inCustody {s : State} (h : s.inCustody) {c : Choice} (hc : nextJob s = some c) :
    (startChoice s c).inCustody := by
  obtain ⟨hj, -⟩ := idle_of_nextJob hc
  have hnone : s.noneHeld := (jobLaw_of_no_job hj).1 h.2
  have hstarted : ∀ {t : State} {j : Job}, t.job = some j → j.fits → s.framed t → t.inCustody := fun htj hfits hf =>
    ⟨coherent_of_framed h.1 hf, (jobLaw_of_job htj).2
      ⟨hfits, fun k hk => absurd (hf.lines ▸ hk) (hnone k)⟩⟩
  obtain ⟨b, hb⟩ | hh := nextJob_eq_some hc
  · obtain ⟨sec, -, ⟨-, rfl⟩ | ⟨-, rfl⟩⟩ := pendingChoice_eq_some hb
    · unfold startChoice startRestore
      dsimp only
      split
      · exact hstarted rfl rfl framed_of_eq
      · exact hstarted rfl rfl framed_of_eq
    · exact hstarted rfl rfl (framed_of_eq (hl := by simp [startChoice]) (hc := by simp [startChoice]))
  · obtain ⟨i, rest, p, hq, hp, rfl⟩ := headChoice_eq_some hh
    exact startCommit_inCustody h hj ((mem_commitQueue_iff h.1.1).1 (hq ▸ List.mem_cons_self)) hp

theorem chooseIf_inCustody {s : State} (h : s.inCustody) (test : Choice → Bool) : (chooseIf s test).inCustody := by
  unfold chooseIf
  split
  · next c hc =>
    split
    · exact startChoice_inCustody h hc
    · exact h
  · exact h

/-! ### Every step -/

theorem partReset_inCustody (s : State) (cause : ResetCause) (left : PulseResidue) : (partReset s cause left).inCustody :=
  inCustody_iff.2 ⟨linesLaw_of_frame reset_linesLaw rfl rfl rfl, reset_jobLaw, reset_pagesLaw, reset_waitLaw⟩

/-- The drain entry seals, and refuses a write held for a line (R35). -/
theorem enterDraining_inCustody {s : State} (h : s.inCustody) : (enterDraining s).inCustody := by
  have hs : s.sealsTo (enterDraining s) := by
    have hseal := sealLines_sealsTo { s with frontEnd := .draining } (linesByAge { s with frontEnd := .draining } .open)
    have hlines := enterDraining_lines s
    exact ⟨fun k => by rw [hlines]; exact hseal.page k, fun k => by rw [hlines]; exact hseal.state k, by simp⟩
  refine inCustody_of_sealsTo h hs (enterDraining_linesLaw h.1.1) ?_
  rw [enterDraining_eq h.1.1]
  dsimp only
  split
  · exact Or.inr rfl
  · exact Or.inl rfl

/-- The parts of a step keep the laws of the lines, the job, the pages and the wait. -/
theorem inCustody_stepLaw : StepLaw State.inCustody State.allBack State.heldCoherent where
  frame := inCustody_of_framed
  reset := partReset_inCustody
  running h hj :=
    have hjob := (jobLaw_of_job hj).1 h.2
    ⟨h.1, hjob⟩
  resting h hj := ⟨h.1, (jobLaw_of_job hj).2 h.2⟩
  moves := heldCoherent_of_leadsTo
  fills i image h := heldCoherent_of_sealsTo h (fillLine_sealsTo _ i image) (fillLine_linesLaw h.1.1 i image)
  absorbs := absorbed_heldCoherent
  retires := handBackRetired_allBack
  fails := handBackFailed_allBack
  closes {s j} h hnot := by
    obtain ⟨hc, hfits, hheld⟩ := h
    refine ⟨hc, fun k hk => ?_⟩
    have hholds := (hheld k hk).1
    rw [hnot hfits] at hholds
    cases hholds
  bareFrame h hf := allBack_of_takesNone h.2 (coherent_of_framed h.1 hf) (takesNone_of_lines hf.lines)
  cascades sec h := allBack_of_takesNone h.2 (entryCascade_coherent h.1 h.2 sec)
    (takesNone_trans (failLines_takesNone _ _) (answerThrough_takesNone _))
  begins h hfits := ⟨h.1, hfits, fun k hk => absurd hk (h.2 k)⟩
  rests h hj := ⟨h.1, (jobLaw_of_no_job hj).2 h.2⟩
  scans h _ hj := ⟨h.1, (jobLaw_of_no_job hj).1 h.2⟩
  seals h := inCustody_of_sealsTo h (sealLines_sealsTo _ _) (sealAll_linesLaw h.1.1)
  ages h := inCustody_of_sealsTo h (ageLines_sealsTo _) (ageLines_linesLaw h.1.1)
  retries p h _ := inCustody_of_takesNone h (retryLines_coherent h.1 p) (retryLines_takesNone _ p)
  discards p h := inCustody_of_takesNone h (discardLines_coherent h.1 p)
    (takesNone_trans (freeLines_takesNone _ _) (retakeHeldWrite_takesNone _))
  retakes h := inCustody_of_takesNone h (retakeHeldWrite_coherent h.1) (retakeHeldWrite_takesNone _)
  answers {s} h := by
    rw [answerThrough_waits h.1.2.2.2]
    exact h
  takes t h _ := inCustody_of_takesNone h (takeTransaction_coherent h.1 t) (takeTransaction_takesNone _ t)
  resumes h := inCustody_of_takesNone h (startHoldResume_coherent h.1) (startHoldResume_takesNone _)
  chooses test h := chooseIf_inCustody h test
  releases h _ := inCustody_of_sealsTo h ⟨fun _ => rfl, fun _ => Or.inl rfl, rfl⟩ (linesLaw_of_frame h.1.1)
  drains := enterDraining_inCustody
  returns h := inCustody_of_sealsTo h ⟨fun _ => rfl, fun _ => Or.inl rfl, rfl⟩ (linesLaw_of_frame h.1.1)
  tests {s} h := inCustody_of_sealsTo h ⟨fun _ => by simp, fun _ => by simp, by simp⟩ (linesLaw_of_frame h.1.1)
  requests _ h _ := inCustody_of_sealsTo h ⟨fun _ => rfl, fun _ => Or.inl rfl, rfl⟩ (linesLaw_of_frame h.1.1)
  setsRegion _ _ h _ := inCustody_of_sealsTo h ⟨fun _ => rfl, fun _ => Or.inl rfl, rfl⟩ (linesLaw_of_frame h.1.1)
  setsSettings h _ := inCustody_of_sealsTo h ⟨fun _ => rfl, fun _ => Or.inl rfl, rfl⟩ (linesLaw_of_frame h.1.1)

/-- Settles O56. -/
theorem stepKeepsLinesJobAndPages : Obligations.StepKeepsLinesJobAndPages := by
  intro s t h hstep
  exact inCustody_iff.1 (step_law inCustody_stepLaw (inCustody_iff.2 h) hstep)

end Sys2Proof.Machine
end

section
/-! PROOF. The writes the staging buffer takes: into the lowest FREE line, into the OPEN line of the page, or held for a line, and a held write
taken again (R22 to R29). -/

namespace Sys2Proof.Machine

set_option Elab.async false

/-! ### What the staging buffer does with a write -/

/-- A write in READY that passes its checks comes to the staging buffer, and the job choice ends the step (R43, R130). -/
theorem exec_write {s : State} {t : Transaction} (hp : s.portReady) (hf : s.frontEnd = .ready) (hd : t.direction = .write)
    (ha : passesAlignment t = true)
    (hk : kindOf s (transactionPage t) = .buffered ∨ kindOf s (transactionPage t) = .through)
    (hq : isNamed s (sectorOf (transactionPage t)) = false) :
    exec (.portTransaction t) s =
      .next (chooseJob (takeWrite { s with portAnswer := none } t (kindOf s (transactionPage t)))) := by
  rw [exec_portTransaction_of_ready hp, takeTransaction_staged (s := { s with portAnswer := none }) ha hk (by simp [hf])]
  exact congrArg _ (congrArg _ (continueChecks_write hd hf hq))

section Branches

variable {s : State} {t : Transaction} (hb : isBlocked s (transactionPage t) = false)
include hb

theorem takeWrite_merges {i : LineNo} (hi : openLineOf s (transactionPage t) = some i) (k : AccessKind) :
    takeWrite s t k = mergeWrite s i t k := by
  unfold takeWrite
  rw [hb, if_neg (by simp), hi]

theorem takeWrite_opens {i : LineNo} (ho : openLineOf s (transactionPage t) = none) (hi : freeLineNo s = some i)
    (k : AccessKind) : takeWrite s t k = openForWrite s i t k := by
  unfold takeWrite
  rw [hb, if_neg (by simp), ho, hi]

theorem takeWrite_holds (ho : openLineOf s (transactionPage t) = none) (hn : freeLineNo s = none) (k : AccessKind) :
    takeWrite s t k = beginHold (pressureSeal s) t k .line := by
  unfold takeWrite
  rw [hb, if_neg (by simp), ho, hn]

end Branches

/-- The only OPEN line of a page is the one a write merges into (R22, R23). -/
theorem openLineOf_eq_some {s : State} {p : PageNo} {i : LineNo} (hi : s.lines[i].state = .open) (hp : s.lines[i].page = some p)
    (hone : ∀ k : LineNo, s.lines[k].state = .open → s.lines[k].page = some p → k = i) : openLineOf s p = some i := by
  cases hk : openLineOf s p with
  | none => exact absurd ⟨hi, hp⟩ (openLineOf_eq_none.1 hk i)
  | some k =>
    obtain ⟨hko, hkp⟩ := openLineOf_spec hk
    rw [hone k hko hkp]

/-! ### Opening a line -/

/-- Settles O12: no line is OPEN for the page and `i` is the lowest FREE line, so the write opens `i`. -/
theorem writeOpensTheLowestFreeLine : Obligations.WriteOpensTheLowestFreeLine := by
  intro s t i hp hf hd ha hq hb hno hfree hlow
  have hopen : ∀ k, takeWrite { s with portAnswer := none } t k = openForWrite { s with portAnswer := none } i t k :=
    takeWrite_opens (s := { s with portAnswer := none }) hb (openLineOf_eq_none.2 hno) (freeLineNo_eq hfree hlow)
  refine ⟨fun hk => ?_, fun hk => ?_⟩
  · rw [exec_write hp hf hd ha (Or.inl hk) hq, hk, hopen, openForWrite_buffered, ← hp.1]
  · rw [exec_write hp hf hd ha (Or.inr hk) hq, hk, hopen, openForWrite_through]

/-! ### Merging -/

theorem isFull_iff {st : Staged} : isFull st = true ↔ fillsPage st := by
  unfold isFull
  rw [decide_eq_true_iff]

section Merging

variable {s : State} {i : LineNo}

/-- Sealing the line just written: it is still OPEN. -/
theorem sealLine_updateLine {f : Line → Line} (hf : (f s.lines[i]).state = .open) :
    sealLine (updateLine s i f) i =
      { s with lines := s.lines.set i { f s.lines[i] with state := .sealed }, commitQueue := s.commitQueue ++ [i] } := by
  have hopen : (updateLine s i f).lines[i].state = .open := by rwa [updateLine_get, if_pos rfl]
  unfold sealLine
  rw [if_pos hopen]
  simp [updateLine]

/-- The OPEN line of the page with the bytes of the write laid over its own (R23). -/
theorem updateLine_written (t : Transaction) :
    updateLine s i (fun l => { l with staged := putBytes l.staged (writesOf t) }) =
      { s with lines := s.lines.set i { s.lines[i] with staged := writtenOver s.lines[i].staged t } } := by
  simp only [updateLine, putBytes_writesOf]

variable (hi : s.lines[i].state = .open) (t : Transaction)

theorem sealIfFull_of_part (hpart : ¬ fillsPage (writtenOver s.lines[i].staged t)) :
    sealIfFull (updateLine s i fun l => { l with staged := putBytes l.staged (writesOf t) }) i =
      { s with lines := s.lines.set i { s.lines[i] with staged := writtenOver s.lines[i].staged t } } := by
  unfold sealIfFull
  rw [updateLine_get, if_pos rfl, putBytes_writesOf, if_neg (mt isFull_iff.1 hpart), updateLine_written]

theorem mergeWrite_stays (hpart : ¬ fillsPage (writtenOver s.lines[i].staged t)) :
    mergeWrite s i t .buffered =
      { s with
        port := .idle, portAnswer := some (.okay []),
        lines := s.lines.set i { s.lines[i] with staged := writtenOver s.lines[i].staged t } } := by
  unfold mergeWrite acceptIntoLine
  rw [sealIfFull_of_part t hpart, if_neg (by simp)]
  rfl

include hi

theorem sealIfFull_of_full (hfull : fillsPage (writtenOver s.lines[i].staged t)) :
    sealIfFull (updateLine s i fun l => { l with staged := putBytes l.staged (writesOf t) }) i =
      { s with
        lines := s.lines.set i { s.lines[i] with staged := writtenOver s.lines[i].staged t, state := .sealed },
        commitQueue := s.commitQueue ++ [i] } := by
  unfold sealIfFull
  rw [updateLine_get, if_pos rfl, putBytes_writesOf, if_pos (isFull_iff.2 hfull), sealLine_updateLine hi, putBytes_writesOf]

theorem mergeWrite_fills (hfull : fillsPage (writtenOver s.lines[i].staged t)) :
    mergeWrite s i t .buffered =
      { s with
        port := .idle, portAnswer := some (.okay []), commitQueue := s.commitQueue ++ [i],
        lines := s.lines.set i { s.lines[i] with staged := writtenOver s.lines[i].staged t, state := .sealed } } := by
  unfold mergeWrite acceptIntoLine
  rw [sealIfFull_of_full hi t hfull, if_neg (by simp)]
  rfl

/-- Full or not, the line of a THROUGH write is sealed once (R25, R26). -/
theorem mergeWrite_through :
    mergeWrite s i t .through =
      { s with
        port := .commitWait t .through i, commitQueue := s.commitQueue ++ [i],
        lines := s.lines.set i
          { s.lines[i] with staged := writtenOver s.lines[i].staged t, state := .sealed, through := true } } := by
  unfold mergeWrite acceptIntoLine
  rw [if_pos rfl]
  by_cases hfull : fillsPage (writtenOver s.lines[i].staged t)
  · rw [sealIfFull_of_full hi t hfull, sealLine, if_neg (by simp [updateLine])]
    simp [updateLine]
  · rw [sealIfFull_of_part t hfull, sealLine_updateLine (by simpa using hi)]
    simp

end Merging

/-- Settles O13: `i` is the one OPEN line of the page, so the write merges into `i`. -/
theorem writeMergesIntoTheOpenLine : Obligations.WriteMergesIntoTheOpenLine := by
  intro s t i hp hf hd ha hq hb hi hpage hone
  have hmerge : ∀ k, takeWrite { s with portAnswer := none } t k = mergeWrite { s with portAnswer := none } i t k :=
    takeWrite_merges (s := { s with portAnswer := none }) hb (openLineOf_eq_some hi hpage hone)
  refine ⟨fun hk hpart => ?_, fun hk hfull => ?_, fun hk => ?_⟩
  · rw [exec_write hp hf hd ha (Or.inl hk) hq, hk, hmerge, mergeWrite_stays (s := { s with portAnswer := none }) t hpart, ← hp.1]
  · rw [exec_write hp hf hd ha (Or.inl hk) hq, hk, hmerge, mergeWrite_fills (s := { s with portAnswer := none }) hi t hfull, ← hp.1]
  · rw [exec_write hp hf hd ha (Or.inr hk) hq, hk, hmerge, mergeWrite_through (s := { s with portAnswer := none }) hi t]

/-! ### The hold for a line -/

/-- Settles O14: no line is OPEN for the page and none is FREE, so the pressure seal comes, and the hold. -/
theorem writeWithoutFreeLineIsHeld : Obligations.WriteWithoutFreeLineIsHeld := by
  intro s t hp hf hd ha hk hq hb hfull hno
  have hhold : takeWrite { s with portAnswer := none } t (kindOf s (transactionPage t)) =
      beginHold (pressureSeal { s with portAnswer := none }) t (kindOf s (transactionPage t)) .line :=
    takeWrite_holds (s := { s with portAnswer := none }) hb (openLineOf_eq_none.2 hno) (freeLineNo_eq_none.2 hfull) _
  refine ⟨fun hnone => ?_, fun i rest hopen => ?_⟩
  · have hseal : pressureSeal { s with portAnswer := none } = { s with portAnswer := none } := by
      unfold pressureSeal
      rw [show linesByAge { s with portAnswer := none } .open = [] from hnone]
    rw [exec_write hp hf hd ha hk hq, hhold, hseal]
    rfl
  · have hi : s.lines[i].state = .open := mem_linesByAge (hopen ▸ List.mem_cons_self)
    have hseal : pressureSeal { s with portAnswer := none } = sealLine { s with portAnswer := none } i := by
      unfold pressureSeal
      rw [show linesByAge { s with portAnswer := none } .open = i :: rest from hopen]
    rw [exec_write hp hf hd ha hk hq, hhold, hseal, sealLine, if_pos hi]
    rfl

/-! ### A held write taken again -/

/-- Settles O19, along the branches of the retake. -/
theorem heldWriteIsTakenAgain : Obligations.HeldWriteIsTakenAgain := by
  refine ⟨fun _ => rfl, fun s hno => retakeHeldWrite_none hno, fun s t k w hp => ⟨fun hfull => ?_, fun i hi hlow => ?_⟩⟩
  · simp only [retakeHeldWrite, hp, freeLineNo_eq_none.2 hfull]
  · have htaken : retakeHeldWrite s =
        if isBlocked s (transactionPage t) then refuse s t .failedPage
        else if isNamed s (sectorOf (transactionPage t)) then refuse s t .quarantine
        else openForWrite s i t k := by
      simp only [retakeHeldWrite, hp, freeLineNo_eq hi hlow]
    refine ⟨fun hb => ?_, fun hb hq => ?_, fun hb hq => ⟨fun hk => ?_, fun hk => ?_⟩⟩
    · rw [htaken, if_pos hb, refuse_eq_afterRefusal]
    · rw [htaken, hb, if_neg (by simp), if_pos hq, refuse_eq_afterRefusal]
    · rw [htaken, hb, hq, if_neg (by simp), if_neg (by simp), hk, openForWrite_buffered]
    · rw [htaken, hb, hq, if_neg (by simp), if_neg (by simp), hk, openForWrite_through]

end Sys2Proof.Machine
end

section
/-! PROOF. An age-timer expiry: every OPEN line is one older, and those that have reached their commit delay are sealed in age-list order (R32,
R33). -/

namespace Sys2Proof.Machine

set_option Elab.async false

/-! ### One line -/

/-- An OPEN line after an expiry: one older, and sealed where it has reached its commit delay (R33). -/
def State.agedLine (s : State) (k : LineNo) : Line :=
  { s.lines[k] with age := s.lines[k].age + 1, state := if s.ageReached k then .sealed else .open }

/-- An OPEN line with its page (R18). -/
def State.openWithPage (s : State) (k : LineNo) : Prop := s.lines[k].state = .open ∧ s.lines[k].page.isSome = true

theorem ageReached_iff {s : State} {k : LineNo} (hp : s.lines[k].page.isSome = true) :
    s.ageReached k = true ↔ lineDelay s k ≤ s.lines[k].age + 1 := by
  obtain ⟨p, hp⟩ := Option.isSome_iff_exists.1 hp
  unfold State.ageReached lineDelay
  rw [hp]
  exact decide_eq_true_iff

theorem ageLine_other {s : State} {i k : LineNo} (hk : k ≠ i) : (ageLine s i).lines[k] = s.lines[k] := by
  rw [ageLine_get, if_neg hk]

theorem ageLine_self {s : State} {i : LineNo} (hi : s.openWithPage i) : (ageLine s i).lines[i] = s.agedLine i := by
  obtain ⟨ho, hp⟩ := hi
  unfold State.agedLine
  simp only [ageLine_get, if_true, ho, and_true, ageReached_iff hp]

theorem ageLine_commitQueue {s : State} {i : LineNo} (hi : s.openWithPage i) :
    (ageLine s i).commitQueue = s.commitQueue ++ [i].filter s.ageReached := by
  obtain ⟨ho, hp⟩ := hi
  have haged : (updateLine s i fun l => { l with age := l.age + 1 }).lines[i].state = .open := by
    rwa [updateLine_get, if_pos rfl]
  unfold ageLine
  dsimp only
  by_cases hr : s.ageReached i = true
  · rw [if_pos ((ageReached_iff hp).1 hr), sealLine_commitQueue, if_pos haged]
    simp [hr]
  · rw [if_neg fun hd => hr ((ageReached_iff hp).2 hd)]
    simp [hr]

/-- What another line has reached is its own affair. -/
theorem ageLine_agedLine {s : State} {i k : LineNo} (hk : k ≠ i) :
    (ageLine s i).ageReached k = s.ageReached k ∧ (ageLine s i).agedLine k = s.agedLine k := by
  have hdelay : ∀ p, delayOf (ageLine s i) p = delayOf s p := fun p => by
    have hregions : (ageLine s i).regions = s.regions := by simp
    have hsettings : (ageLine s i).settings = s.settings := by simp
    unfold delayOf regionOf
    rw [hregions, hsettings]
  have hreached : (ageLine s i).ageReached k = s.ageReached k := by
    unfold State.ageReached
    rw [ageLine_other hk]
    simp only [hdelay]
  refine ⟨hreached, ?_⟩
  unfold State.agedLine
  rw [hreached, ageLine_other hk]

/-! ### The OPEN lines, one after another -/

section Fold

variable {s : State} {is : List LineNo} (hd : is.Nodup) (ho : ∀ k ∈ is, s.openWithPage k)
include hd ho

theorem ageLinesFold_get (k : LineNo) :
    (is.foldl ageLine s).lines[k] = if k ∈ is then s.agedLine k else s.lines[k] := by
  induction is generalizing s with
  | nil => simp [-Fin.getElem_fin]
  | cons i is ih =>
    obtain ⟨hni, hd⟩ := List.nodup_cons.1 hd
    have hne : ∀ m ∈ is, m ≠ i := fun m hm he => hni (he ▸ hm)
    have ho' : ∀ m ∈ is, (ageLine s i).openWithPage m := fun m hm => by
      unfold State.openWithPage
      rw [ageLine_other (hne m hm)]
      exact ho m (List.mem_cons_of_mem _ hm)
    rw [List.foldl_cons, ih hd ho']
    by_cases hki : k = i
    · subst hki
      rw [if_neg hni, if_pos List.mem_cons_self, ageLine_self (ho k List.mem_cons_self)]
    · simp only [(ageLine_agedLine hki).2, ageLine_other hki, List.mem_cons, hki, false_or]

theorem ageLinesFold_commitQueue : (is.foldl ageLine s).commitQueue = s.commitQueue ++ is.filter s.ageReached := by
  induction is generalizing s with
  | nil => simp
  | cons i is ih =>
    obtain ⟨hni, hd⟩ := List.nodup_cons.1 hd
    have hne : ∀ m ∈ is, m ≠ i := fun m hm he => hni (he ▸ hm)
    have ho' : ∀ m ∈ is, (ageLine s i).openWithPage m := fun m hm => by
      unfold State.openWithPage
      rw [ageLine_other (hne m hm)]
      exact ho m (List.mem_cons_of_mem _ hm)
    have hfilter : is.filter (ageLine s i).ageReached = is.filter s.ageReached :=
      List.filter_congr fun m hm => (ageLine_agedLine (hne m hm)).1
    rw [List.foldl_cons, ih hd ho', ageLine_commitQueue (ho i List.mem_cons_self), hfilter, List.append_assoc,
      ← List.filter_append, List.singleton_append]

end Fold

theorem ageLine_eq (s : State) (i : LineNo) :
    ageLine s i = { s with lines := (ageLine s i).lines, commitQueue := (ageLine s i).commitQueue } := by
  unfold ageLine
  dsimp only
  split
  · rw [sealLine_eq]
    rfl
  · rfl

theorem ageLinesFold_eq (s : State) (is : List LineNo) :
    is.foldl ageLine s = { s with lines := (is.foldl ageLine s).lines, commitQueue := (is.foldl ageLine s).commitQueue } := by
  induction is generalizing s with
  | nil => rfl
  | cons i is ih => rw [List.foldl_cons, ih (ageLine s i), ageLine_eq s i]

/-! ### The expiry -/

/-- Settles O22: STOPPED, the timer does not expire; RUNNING, its expiry ages the OPEN lines, each of which has a page. -/
theorem ageExpiryAgesAndSeals : Obligations.AgeExpiryAgesAndSeals := by
  refine fun s hl => ⟨fun hstopped => ?_, fun hruns => ?_⟩
  · simp only [exec, execAgeTimerExpiry, ageTimerExpires, hstopped]
  · obtain ⟨w, hw⟩ := Option.isSome_iff_exists.1 hruns
    have hd : (linesByAge s .open).Nodup := hl.1.filter _
    have ho : ∀ k ∈ linesByAge s .open, s.openWithPage k := fun k hk =>
      ⟨mem_linesByAge hk, page_isSome_of_not_free hl (by rw [mem_linesByAge hk]; simp)⟩
    refine ⟨loadAgeTimer (ageLines s), ?_, ?_, fun i => ?_⟩
    · simp only [exec, execAgeTimerExpiry, ageTimerExpires, hw]
    · have hqueue : (ageLines s).commitQueue = s.commitQueue ++ (linesByAge s .open).filter s.ageReached :=
        ageLinesFold_commitQueue hd ho
      unfold loadAgeTimer
      rw [← hqueue]
      exact congrArg (fun u : State => { u with ageTimer := some (u.settings.tick * 50) }) (ageLinesFold_eq s _)
    · have hget : (loadAgeTimer (ageLines s)).lines[i] = if i ∈ linesByAge s .open then s.agedLine i else s.lines[i] :=
        ageLinesFold_get hd ho i
      rw [hget]
      simp only [mem_linesByAge_iff hl (st := .open) (by simp)]
      rfl

end Sys2Proof.Machine
end

section
/-! PROOF. A COMMIT's completions: what its pre-read decides, in each state of the journal, and what the verify of its program loop decides
(R47 to R49, R51, R54, R55, R67, R69, R97). -/

namespace Sys2Proof.Machine

set_option Elab.async false

/-! ### A job of one line -/

/-- The lines a failure of the COMMITTING line `i` of page `p` makes FAILED: itself, and the OPEN and SEALED lines of its page (R97). -/
def State.failsWith (s : State) (i : LineNo) (p : PageNo) (k : LineNo) : Bool := k == i || s.cascaded p k

theorem jobLines_single {j : Job} {i : LineNo} (hh : j.head = some i) (hm : j.members = []) : jobLines j = [i] := by
  simp [jobLines, hh, hm]

theorem committingIn_single {s : State} {i : LineNo} (hc : s.lines[i].state = .committing) : committingIn s [i] = [i] := by
  simp [-Fin.getElem_fin, committingIn, hc]

section Single

variable {s : State} {i : LineNo} {p : PageNo} (hc : s.lines[i].state = .committing) (hp : s.lines[i].page = some p)
include hc hp

theorem cascadeOf_single : cascadeOf s [i] = (List.finRange 8).filter (s.cascaded p) := by
  have hpages : pagesOf s [i] = [p] := by simp [-Fin.getElem_fin, pagesOf, hp]
  unfold cascadeOf waitingLines
  rw [committingIn_single hc, hpages]
  refine List.filter_congr fun k _ => ?_
  unfold State.cascaded
  congr 1
  cases s.lines[k].page with
  | none => rfl
  | some q => simp [Bool.beq_eq_decide_eq]

theorem failedWith_of_single {j : Job} (hl : jobLines j = [i]) : s.failedWith j = s.failsWith i p := by
  funext k
  rw [Bool.eq_iff_iff, failedWith_iff, hl, cascadeOf_single hc hp, committingIn_single hc, List.mem_singleton, List.mem_filter]
  simp [State.failsWith]

/-- The failing end of a job of one line (R38, R97). -/
theorem handBackFailed_single (hw : s.waitLaw) {j : Job} (hl : jobLines j = [i]) :
    ∃ u, handBackFailed s (jobLines j) = u ∧
      u = { s with
        lines := u.lines, commitQueue := u.commitQueue, port := s.portAfter (s.failsWith i p),
        portAnswer := s.answerAfter (s.failsWith i p) (.error .commitFail) } ∧
      s.linesFailed u (s.failsWith i p) := by
  have hspec := handBackFailed_spec hw j
  rwa [failedWith_of_single hc hp hl] at hspec

end Single

/-! ### The line filled with its image -/

section Fill

variable {s : State} {i : LineNo}

theorem fillLine_eq (hc : s.lines[i].state = .committing) (image : Page) :
    fillLine s i image = { s with lines := s.lines.set i { s.lines[i] with staged := filledWith image } } := by
  simp only [fillLine, updateLine, if_pos hc]

theorem fillLine_waitLaw (h : s.waitLaw) (i : LineNo) (image : Page) : (fillLine s i image).waitLaw :=
  waitLaw_of_lines h (Or.inl (by simp)) fun k hk =>
    hk.imp (sealsTo_sealed (fillLine_sealsTo s i image)) (sealsTo_state_iff (fillLine_sealsTo s i image) k (by simp) (by simp)).2

/-- The fill leaves states and pages: the cascade of a page reaches the same lines. -/
theorem fillLine_cascaded (hc : s.lines[i].state = .committing) (image : Page) (p : PageNo) :
    (fillLine s i image).cascaded p = s.cascaded p := by
  funext k
  unfold State.cascaded
  rw [fillLine_get hc]
  split
  · next hk => rw [hk]
  · rfl

end Fill

/-- The target image is the staged bytes over the cells (R47). -/
theorem overlay_eq {st : Staged} {known image : Page} (h : ∀ x : Fin 64, image[x] = st[x].getD known[x]) :
    overlay st known = image := by
  apply Vector.ext
  intro n hn
  rw [overlay, Vector.getElem_ofFn]
  exact (h ⟨n, hn⟩).symm

/-! ### The journal check -/

theorem journalCheck_blank {s : State} {j : Job} (h : journalState s (journalFor j.sector) = .blank) (page : PageNo) :
    journalCheck s j page = startLoad s j := by simp only [journalCheck, h]

theorem journalCheck_spent {s : State} {j : Job} (h : journalState s (journalFor j.sector) = .spent) (page : PageNo) :
    journalCheck s j page = startErase s j (.journal (journalFor j.sector)) := by simp only [journalCheck, h]

theorem journalCheck_held {s : State} {j : Job} {sec : SectorNo} (h : journalState s (journalFor j.sector) = .openFor sec)
    (hne : sec ≠ j.sector) (page : PageNo) : journalCheck s j page = journalIsHeld s j page := by
  simp only [journalCheck, h, if_neg hne]

/-! ### The pre-read -/

section PreRead

variable {s : State} {j : Job} {i : LineNo} {p : PageNo} {known image : Page} (hop : s.op = some (.readPage (.user p)))
  (hj : s.job = some j) (hst : j.stage = .preRead) (hl : j.loop = none) (hh : j.head = some i) (hp : j.page = some p)
  (hk : known = readCells s.cells (.user p)) (hi : ∀ x : Fin 64, image[x] = s.lines[i].staged[x].getD known[x])
include hop hj hst hl hh hp hk hi

/-- The pre-read's three ways on, by the image and the cells (R47 to R49). -/
theorem exec_preRead :
    exec .readPageComplete s = .next (evaluateHeldRead (bankOf (sectorOf p))
      (if image = known then commitSucceeds (fillLine (removeOp s) i image) j
      else if lacksOneBit image known then
        journalCheck (fillLine (removeOp s) i image) { j with kind := .rewrite, stage := .journalCheck } p
      else startProgram (fillLine (removeOp s) i image) { j with stage := .program } (.user p) image known)) := by
  subst hk
  have himage : overlay (removeOp s).lines[i].staged (readCells s.cells (.user p)) = image := overlay_eq hi
  have hread : jobReads (removeOp s) j (readCells s.cells (.user p)) = preReadDone (removeOp s) j (readCells s.cells (.user p)) := by
    simp only [jobReads, hl, hst]
  rw [exec_readPageComplete_of_job hop hj, hread]
  simp only [preReadDone, hh, hp, himage]
  rfl

end PreRead

/-- Settles O25. -/
theorem preReadDecides : Obligations.PreReadDecides := by
  intro s j i p known image hop hj hk hst hl hh hm hp hc hknown himage
  have hexec := exec_preRead hop hj hst hl hh hp hknown himage
  have hfill : fillLine (removeOp s) i image =
      { s with op := none, lines := s.lines.set i { s.lines[i] with staged := filledWith image } } := fillLine_eq (s := removeOp s) hc image
  have hlines := jobLines_single hh hm
  refine ⟨fun heq hw => ?_, fun hbit f hf => ?_, fun hne hno => ?_⟩
  · have hfc : (fillLine (removeOp s) i image).lines[i].state = .committing := by
      rw [fillLine_get (s := removeOp s) hc, if_pos rfl]
      exact hc
    rw [hexec, if_pos heq, commitSucceeds, hlines, handBackRetired_single (fillLine_waitLaw (s := removeOp s) hw i image) hfc, hfill]
    simp only [Vector.set_set]
    rfl
  · have hlacks := lacksOneBit_iff.2 hbit
    have hne : image ≠ known := fun he => by
      rw [he, not_lacksOneBit_self] at hlacks
      cases hlacks
    rw [if_neg hne, if_pos hlacks] at hexec
    have hfill : fillLine (removeOp s) i image = f := hfill.trans hf.symm
    rw [hfill] at hexec
    have hjournal : journalState f (journalFor j.sector) = journalState s (journalFor j.sector) := by rw [hf]; rfl
    refine ⟨fun hjr => ?_, fun hjr => ?_, fun sec failed hjr hsec hpage hfailed hw => ?_⟩
    · rw [hexec, journalCheck_blank (j := { j with kind := .rewrite, stage := .journalCheck }) (hjournal.trans hjr), startLoad, ← hl]
      rfl
    · rw [hexec, journalCheck_spent (j := { j with kind := .rewrite, stage := .journalCheck }) (hjournal.trans hjr)]
      rfl
    · have hfc : f.lines[i].state = .committing ∧ f.lines[i].page = some p := by
        rw [← hfill, fillLine_get (s := removeOp s) hc, if_pos rfl]
        exact ⟨hc, hpage⟩
      have hfw : f.waitLaw := hfill ▸ fillLine_waitLaw (s := removeOp s) hw i image
      have hcasc : f.cascaded p = s.cascaded p := hfill ▸ fillLine_cascaded (s := removeOp s) hc image p
      have hfails : f.failsWith i p = failed := by
        rw [hfailed]
        funext k
        rw [State.failsWith, hcasc]
      obtain ⟨u, hu, hueq, hulines⟩ := handBackFailed_single hfc.1 hfc.2 hfw hlines
      rw [hfails] at hueq hulines
      refine ⟨appendFault u (.journalHeld p (journalFor j.sector) ((List.finRange 8).filter (s.cascaded p)).length), ?_, ?_, hulines⟩
      · rw [hexec, journalCheck_held (j := { j with kind := .rewrite, stage := .journalCheck }) (hjournal.trans hjr) hsec]
        show _ = Host.Outcome.next (evaluateHeldRead _ (endJob (appendFault u _)))
        rw [← hu, ← hcasc, ← cascadeOf_single hfc.1 hfc.2, ← hlines]
        rfl
      · rw [hf] at hueq ⊢
        exact congrArg (fun v => appendFault v (.journalHeld p (journalFor j.sector) _)) hueq
  · have hlacks : lacksOneBit image known = false := by
      rw [Bool.eq_false_iff, ne_eq, lacksOneBit_iff]
      rintro ⟨x, hx⟩
      exact hx (hno x)
    rw [hexec, if_neg hne, hlacks, if_neg (by simp), hfill]
    rfl

/-! ### The verify -/

/-- Bits left to clear, none disturbed, and pulses left: the loop goes on with the latch of those bits (R51, R52). -/
theorem exec_verify_again {s : State} {j : Job} {cp : CellPage} {image latch : Page} {n : Nat} (hop : s.op = some (.readPage cp))
    (hj : s.job = some j) (hl : j.loop = some (.program cp image latch n)) (hne : readCells s.cells cp ≠ image)
    (hno : ∀ x : Fin 64, image[x] &&& ~~~(readCells s.cells cp)[x] = 0#8) (hmax : n < s.settings.pgmMax) :
    exec .readPageComplete s =
      .next (evaluateHeldRead cp.target.bank (nextProgramPulse (removeOp s) j cp image (readCells s.cells cp) n)) := by
  have hlacks : ¬ lacksOneBit image (readCells s.cells cp) = true := fun h => by
    obtain ⟨x, hx⟩ := lacksOneBit_iff.1 h
    exact hx (hno x)
  have hverdict : verdictOf image (readCells s.cells cp) n s.settings.pgmMax = .again := by
    rw [verdictOf, if_neg hne, if_neg hlacks, if_pos hmax]
  rw [exec_readPageComplete_of_job hop hj, jobReads, hl]
  simp only [verifyDone, removeOp_settings, hverdict]

theorem programSucceeds_program {s : State} {j : Job} (hst : j.stage = .program) : programSucceeds s j = commitSucceeds s j := by
  simp only [programSucceeds, hst]

theorem programFails_program {s : State} {j : Job} {p : PageNo} (hst : j.stage = .program) (hp : j.page = some p)
    (cause : LoopFailure) (n : Nat) : programFails s j cause n = commitFails s j p cause n := by
  simp only [programFails, hst, hp]

/-- Settles O26. -/
theorem verifyDecides : Obligations.VerifyDecides := by
  rintro s j cp image latch _ n hop hj hl rfl
  refine ⟨fun hne hno hmax => exec_verify_again hop hj hl hne hno hmax, fun i p hst hh hm hp hc hpage hw => ?_⟩
  have hlines := jobLines_single hh hm
  refine ⟨fun hr => ?_, fun cause failed hfailed hcause => ?_⟩
  · refine exec_verify_succeeds hop hj hl hr ((programSucceeds_program (j := { j with loop := none }) hst).trans ?_)
    have hback := handBackRetired_single (s := removeOp s) hw hc
    rw [← hlines] at hback
    exact congrArg endJob hback
  · have hfails : s.loopFails cp image n cause := by
      obtain ⟨hd, -, hbit⟩ | ⟨he, hne, hno, hmax⟩ := hcause
      · exact Or.inl ⟨hd, hbit⟩
      · exact Or.inr ⟨he, hne, hno, hmax⟩
    have hfailed' : (removeOp s).failsWith i p = failed := hfailed ▸ rfl
    obtain ⟨u, hu, hueq, hulines⟩ := handBackFailed_single (s := removeOp s) hc hpage hw hlines
    rw [hfailed'] at hueq hulines
    refine ⟨appendFault u (.programFail p cause n ((List.finRange 8).filter (s.cascaded p)).length), ?_, ?_, hulines⟩
    · refine exec_verify_fails hop hj hl hfails ((programFails_program (j := { j with loop := none }) hst hp cause n).trans ?_)
      have hcount : cascadeOf (removeOp s) (jobLines j) = (List.finRange 8).filter (s.cascaded p) := by
        rw [hlines]
        exact cascadeOf_single (s := removeOp s) hc hpage
      rw [← hu, ← hcount]
      rfl
    · exact congrArg (fun v => appendFault v (.programFail p cause n _)) hueq

end Sys2Proof.Machine
end

section
/-! PROOF. FLUSH: the request's checks, the seals, and the answer at once or deferred (R34, R169, R177). -/

namespace Sys2Proof.Machine

set_option Elab.async false

/-! ### What is done alike whether the link is BUSY or not -/

/-- An operation that works apart from the link and the command unit. -/
theorem linkBusy_of_withLink {f : State → State} (hf : ∀ l un k s, f (s.withLink l un k) = (f s).withLink l un k) (s : State) :
    f s.linkBusy = (f s).linkBusy := by
  have hkeeps : f s = (f s).withLink s.link s.unit s.freeIndex := hf s.link s.unit s.freeIndex s
  calc f s.linkBusy
      _ = (f s).withLink { s.link with state := .busy } s.unit s.freeIndex := hf _ _ _ s
      _ = ((f s).withLink s.link s.unit s.freeIndex).linkBusy := rfl
      _ = (f s).linkBusy := by rw [← hkeeps]

theorem chooseJob_linkBusy (s : State) : chooseJob s.linkBusy = (chooseJob s).linkBusy :=
  linkBusy_of_withLink chooseJob_withLink s

theorem sealAll_linkBusy (s : State) : sealAll s.linkBusy = (sealAll s).linkBusy := linkBusy_of_withLink sealAll_withLink s

/-! ### The request -/

theorem exec_flush {s : State} (h : s.linkReady) (tag wait : Byte) :
    exec (.flush tag wait) s = .next (runFlush s.linkBusy tag wait) :=
  congrArg Host.Outcome.next (receiveBytes_eq_runCommand h (cmd := 0x20#8) tag (args := [wait]) (by simp) rfl)

/-- A choice that leaves no job running has taken nothing. -/
theorem chooseJob_of_idle {s : State} (h : (chooseJob s).job = none) : chooseJob s = s := by
  cases hc : nextJob s with
  | none => exact chooseJob_of_none hc
  | some c =>
    have hjob := startChoice_job s c
    rw [← chooseJob_eq hc, h] at hjob
    cases hjob

/-- The seals, the choice and the answer that FLUSH makes of them (R34). -/
theorem runFlush_accepted {s : State} (tag : Byte) {wait : Byte} (hs : s.frontEnd ≠ .starting) (hw : wait = 0#8 ∨ wait = 1#8) :
    runFlush s.linkBusy tag wait =
      if wait = 0#8 then answerStatus (chooseJob (sealAll s)).linkBusy .ok tag
      else deferResponse (chooseJob (sealAll s)).linkBusy tag := by
  have hrange : ¬(wait ≠ 0#8 ∧ wait ≠ 1#8) := by tauto
  unfold runFlush
  rw [if_neg hrange, if_neg (by simpa using hs), sealAll_linkBusy, chooseJob_linkBusy]

/-! ### The deferral -/

/-- With nothing queued or running a response is deferred and built in one step (R177). -/
theorem deferResponse_answers {v : State} (hq : v.commitQueue = []) (hj : v.job = none) (hrest : v.link.transmitter = .resting)
    (hd : v.unit.deferred = none) (tag : Byte) :
    deferResponse v.linkBusy tag = v.answering 0x00#8 tag [BitVec.ofNat 8 (linesIn v .failed)] false := by
  have hundeferred : State.undeferred { v.linkBusy with unit := { v.unit with deferred := some tag } } = v.linkBusy := by
    unfold State.undeferred
    rw [← hd]
    rfl
  unfold deferResponse
  rw [if_neg (by simp)]
  refine (flushTest_at_once (s := { v.linkBusy with unit := { v.unit with deferred := some tag } }) hq hj rfl rfl rfl hrest).trans ?_
  rw [hundeferred]
  rfl

/-- While a line is queued or a job runs the response waits (R177). -/
theorem deferResponse_waits {v : State} (hrun : v.commitQueue ≠ [] ∨ v.job.isSome = true) (tag : Byte) :
    deferResponse v.linkBusy tag = { v.linkBusy with unit := { v.unit with deferred := some tag } } := by
  unfold deferResponse
  rw [if_neg (by simp)]
  exact flushTest_waits (hrun.imp id Or.inl)

/-- Sealing leaves the number of FAILED lines. -/
theorem linesIn_sealAll (s : State) : linesIn (sealAll s) .failed = linesIn s .failed := by
  unfold linesIn
  refine congrArg List.length (List.filter_congr fun i _ => ?_)
  rw [Bool.eq_iff_iff, beq_iff_eq, beq_iff_eq]
  exact sealsTo_state_iff (sealLines_sealsTo s _) i (by simp) (by simp)

/-- Settles O44: the request's checks in order, then the seals and the choice, from which the answer goes or is deferred. -/
theorem flushSealsAndAnswers : Obligations.FlushSealsAndAnswers := by
  intro s tag wait h hl
  have hrest := resting_of_linkReady h
  obtain ⟨-, -, -, -, -, -, hdeferred⟩ := id h
  have hlink : (chooseJob (sealAll s)).link = s.link := by simp
  have hunit : (chooseJob (sealAll s)).unit = s.unit := by simp
  refine ⟨fun hw => ?_, fun hw hs => ?_, fun hs =>
    ⟨sealAll s, sealAll_eq hl, sealAll_get hl, fun hw => ?_, fun hw hq hj => ?_, fun hw hrun => ?_⟩⟩
  · have hrange : wait ≠ 0#8 ∧ wait ≠ 1#8 := by
      constructor <;> bv_omega
    rw [exec_flush h, runFlush, if_pos hrange, answerStatus_linkBusy hrest]
    rfl
  · have hrange : ¬(wait ≠ 0#8 ∧ wait ≠ 1#8) := by bv_omega
    rw [exec_flush h, runFlush, if_neg hrange, if_pos (by simpa using hs), answerStatus_linkBusy hrest]
    rfl
  · rw [exec_flush h, runFlush_accepted tag hs (Or.inl hw), if_pos hw, answerStatus_linkBusy (by rwa [hlink])]
    rfl
  · subst hw
    have hfailed : linesIn (chooseJob (sealAll s)) .failed = linesIn s .failed := by
      rw [chooseJob_of_idle hj, linesIn_sealAll]
    rw [exec_flush h, runFlush_accepted tag hs (Or.inr rfl), if_neg (by simp),
      deferResponse_answers hq hj (by rwa [hlink]) (by rwa [hunit]), hfailed]
    rfl
  · subst hw
    rw [exec_flush h, runFlush_accepted tag hs (Or.inr rfl), if_neg (by simp), deferResponse_waits hrun, ← hlink, ← hunit]
    rfl

end Sys2Proof.Machine
end

section
/-! PROOF. RETRY_PAGE and DISCARD_PAGE: the checks of the request, and what becomes of the FAILED lines of the page (R101, R102, R180,
R181). -/

namespace Sys2Proof.Machine

set_option Elab.async false

/-! ### The requests -/

theorem exec_retryPage {s : State} (h : s.linkReady) (tag : Byte) (page : BitVec 16) :
    exec (.retryPage tag page) s = .next (runRetryPage s.linkBusy tag page) := by
  have hrun := receiveBytes_eq_runCommand h (cmd := 0x40#8) tag (args := [lowByte page, highByte page]) (by simp) rfl
  have hword : runCommand s.linkBusy 0x40#8 tag [lowByte page, highByte page] =
      runRetryPage s.linkBusy tag (wordOf (lowByte page) (highByte page)) := rfl
  rw [hword, wordOf_lowByte_highByte] at hrun
  exact congrArg Host.Outcome.next hrun

theorem exec_discardPage {s : State} (h : s.linkReady) (tag : Byte) (page : BitVec 16) :
    exec (.discardPage tag page) s = .next (runDiscardPage s.linkBusy tag page) := by
  have hrun := receiveBytes_eq_runCommand h (cmd := 0x41#8) tag (args := [lowByte page, highByte page]) (by simp) rfl
  have hword : runCommand s.linkBusy 0x41#8 tag [lowByte page, highByte page] =
      runDiscardPage s.linkBusy tag (wordOf (lowByte page) (highByte page)) := rfl
  rw [hword, wordOf_lowByte_highByte] at hrun
  exact congrArg Host.Outcome.next hrun

/-! ### Their checks -/

theorem pageOfWord_eq_none {w : BitVec 16} (h : 4096 ≤ w.toNat) : pageOfWord w = none :=
  Option.eq_none_iff_forall_ne_some.2 fun p hp => by
    have hval := pageOfWord_eq_some_iff.1 hp
    omega

theorem isBlocked_eq_false {s : State} {p : PageNo} (h : ∀ i : LineNo, s.lines[i].state = .failed → s.lines[i].page ≠ some p) :
    isBlocked s p = false := by
  rw [Bool.eq_false_iff, ne_eq, isBlocked_iff]
  rintro ⟨i, hi, hp⟩
  exact h i hi hp

section Checks

variable {s : State} (hrest : s.link.transmitter = .resting) (tag : Byte) {page : BitVec 16} {p : PageNo}
  (hp : pageOfWord page = some p)

theorem retryLines_linkBusy (s : State) (p : PageNo) : retryLines s.linkBusy p = (retryLines s p).linkBusy :=
  linkBusy_of_withLink (f := fun s => retryLines s p) (fun l un k s => retryLines_withLink l un k s p) s

theorem discardLines_linkBusy (s : State) (p : PageNo) : discardLines s.linkBusy p = (discardLines s p).linkBusy :=
  linkBusy_of_withLink (f := fun s => discardLines s p) (fun l un k s => discardLines_withLink l un k s p) s

include hrest

theorem runRetryPage_range (h : pageOfWord page = none) : runRetryPage s.linkBusy tag page = s.answering 0x04#8 tag [] false := by
  simp only [runRetryPage, h, answerStatus_linkBusy hrest, statusCode]

theorem runDiscardPage_range (h : pageOfWord page = none) :
    runDiscardPage s.linkBusy tag page = s.answering 0x04#8 tag [] false := by
  simp only [runDiscardPage, h, answerStatus_linkBusy hrest, statusCode]

include hp

theorem runRetryPage_state (h : s.frontEnd ≠ .ready ∨ isBlocked s p = false ∨ isNamed s (sectorOf p) = true) :
    runRetryPage s.linkBusy tag page = s.answering 0x05#8 tag [] false := by
  have hcheck : s.linkBusy.frontEnd ≠ .ready ∨ (!isBlocked s.linkBusy p || isNamed s.linkBusy (sectorOf p)) = true := by
    refine h.imp id fun h => ?_
    obtain h | h := h
    · simp [show isBlocked s.linkBusy p = false from h]
    · simp [show isNamed s.linkBusy (sectorOf p) = true from h]
  have hanswer : answerStatus s.linkBusy .state tag = s.answering 0x05#8 tag [] false := answerStatus_linkBusy hrest .state tag
  simp only [runRetryPage, hp]
  split
  · exact hanswer
  · next hready => rw [if_pos (hcheck.resolve_left hready), hanswer]

theorem runRetryPage_ok (hf : s.frontEnd = .ready) (hb : isBlocked s p = true) (hq : isNamed s (sectorOf p) = false) :
    runRetryPage s.linkBusy tag page = (chooseJob (retryLines s p)).answering 0x00#8 tag [] false := by
  have hcheck : ¬(!isBlocked s.linkBusy p || isNamed s.linkBusy (sectorOf p)) = true := by
    simp [show isBlocked s.linkBusy p = true from hb, show isNamed s.linkBusy (sectorOf p) = false from hq]
  simp only [runRetryPage, hp]
  rw [if_neg (show ¬ s.linkBusy.frontEnd ≠ .ready from not_not.2 hf), if_neg hcheck, retryLines_linkBusy, chooseJob_linkBusy, answerStatus_linkBusy (by simpa using hrest)]
  rfl

theorem runDiscardPage_state (h : s.frontEnd = .starting ∨ isBlocked s p = false) :
    runDiscardPage s.linkBusy tag page = s.answering 0x05#8 tag [] false := by
  have hcheck : s.linkBusy.frontEnd = .starting ∨ (!isBlocked s.linkBusy p) = true :=
    h.imp id fun h => by simp [show isBlocked s.linkBusy p = false from h]
  have hanswer : answerStatus s.linkBusy .state tag = s.answering 0x05#8 tag [] false := answerStatus_linkBusy hrest .state tag
  simp only [runDiscardPage, hp]
  split
  · exact hanswer
  · next hs => rw [if_pos (hcheck.resolve_left hs), hanswer]

theorem runDiscardPage_ok (hf : s.frontEnd ≠ .starting) (hb : isBlocked s p = true) :
    runDiscardPage s.linkBusy tag page = (chooseJob (discardLines s p)).answering 0x00#8 tag [] false := by
  have hcheck : ¬(!isBlocked s.linkBusy p) = true := by simp [show isBlocked s.linkBusy p = true from hb]
  simp only [runDiscardPage, hp]
  rw [if_neg (show ¬ s.linkBusy.frontEnd = .starting from hf), if_neg hcheck, discardLines_linkBusy, chooseJob_linkBusy,
    answerStatus_linkBusy (by simpa [discardLines] using hrest)]
  rfl

end Checks

/-! ### The FAILED lines of the page -/

theorem failedLinesOf_eq (s : State) (p : PageNo) :
    failedLinesOf s p = s.ageList.filter fun i => s.lines[i].state == .failed && s.lines[i].page == some p := by
  unfold failedLinesOf linesByAge
  rw [List.filter_filter]
  exact List.filter_congr fun i _ => Bool.and_comm _ _

/-- Returned to the queue in age-list order, the lines SEALED (R101). -/
theorem retryLines_eq (s : State) (p : PageNo) :
    retryLines s p = { s with lines := (retryLines s p).lines, commitQueue := s.commitQueue ++ failedLinesOf s p } := by
  rw [← retryLinesFold_commitQueue]
  unfold retryLines
  generalize failedLinesOf s p = is
  induction is generalizing s with
  | nil => rfl
  | cons i is ih => rw [List.foldl_cons, ih (retryLine s i)]; rfl

/-- Freed, the lines leave the age list; the queue holds none of them (R20, R102). -/
theorem freeFailedLines_eq {s : State} (h : s.linesLaw) (p : PageNo) :
    (failedLinesOf s p).foldl freeLine s =
      { s with
        lines := ((failedLinesOf s p).foldl freeLine s).lines,
        ageList := s.ageList.filter fun i => !(s.lines[i].state == .failed && s.lines[i].page == some p) } := by
  have ha : ((failedLinesOf s p).foldl freeLine s).ageList =
      s.ageList.filter fun i => !(s.lines[i].state == .failed && s.lines[i].page == some p) := by
    rw [freeLines_ageList s _ h.1]
    refine List.filter_congr fun i _ => congrArg _ ?_
    rw [Bool.eq_iff_iff, List.contains_iff_mem, mem_failedLinesOf_iff h, Bool.and_eq_true, beq_iff_eq, beq_iff_eq]
  have hq : ((failedLinesOf s p).foldl freeLine s).commitQueue = s.commitQueue := by
    rw [freeLines_commitQueue s _ h.2.1, List.filter_eq_self]
    intro i hi
    have hni : i ∉ failedLinesOf s p := fun hm => by
      have hsealed := (mem_commitQueue_iff h).1 hi
      rw [mem_failedLinesOf hm] at hsealed
      cases hsealed
    simpa using hni
  have heq := freeLines_eq s (failedLinesOf s p)
  rw [hq] at heq
  rw [← ha]
  exact heq

/-- Settles O47. -/
theorem retryAndDiscardActOnFailedLines : Obligations.RetryAndDiscardActOnFailedLines := by
  intro s tag page h hl
  have hrest := resting_of_linkReady h
  refine ⟨fun hrange => ?_, fun p hp => ?_⟩
  · have hnone := pageOfWord_eq_none hrange
    exact ⟨by rw [exec_retryPage h, runRetryPage_range hrest tag hnone],
      by rw [exec_discardPage h, runDiscardPage_range hrest tag hnone]⟩
  · have hpage := pageOfWord_eq_some_iff.2 hp
    refine ⟨fun hst => ?_, fun hst => ?_, fun hfailed => ⟨fun hf hq => ?_, fun hf => ?_⟩⟩
    · rw [exec_retryPage h, runRetryPage_state hrest tag hpage]
      exact hst.imp id (Or.imp isBlocked_eq_false fun hq => beq_iff_eq.2 hq)
    · rw [exec_discardPage h, runDiscardPage_state hrest tag hpage (hst.imp id isBlocked_eq_false)]
    · refine ⟨retryLines s p, ?_, ?_, fun i => ?_⟩
      · rw [exec_retryPage h, runRetryPage_ok hrest tag hpage hf (isBlocked_iff.2 hfailed) (beq_eq_false_iff_ne.2 hq)]
      · exact failedLinesOf_eq s p ▸ retryLines_eq s p
      · rw [retryLines, retryLinesFold_get]
        simp only [mem_failedLinesOf_iff hl]
    · refine ⟨(failedLinesOf s p).foldl freeLine s, ?_, freeFailedLines_eq hl p, fun i => ?_⟩
      · rw [exec_discardPage h, runDiscardPage_ok hrest tag hpage hf (isBlocked_iff.2 hfailed)]
        rfl
      · rw [freeLines_get]
        simp only [mem_failedLinesOf_iff hl]

end Sys2Proof.Machine
end

section
/-! PROOF. Release from reset and the end of start-up (chapter 9): the entry into STARTING, and what leaving it makes of a state
that has no line and nothing to start. -/

namespace Sys2Proof.Machine
set_option Elab.async false

/-! ### The release -/

theorem exec_resetRelease_of_inReset {s : State} (hf : s.frontEnd = .inReset) :
    exec .resetRelease s = .next (takeNextTransaction (enterStarting s)) := by
  simp only [exec, execResetRelease, releaseReset, if_pos hf]

theorem exec_resetRelease_of_ne {s : State} (hf : s.frontEnd ≠ .inReset) : exec .resetRelease s = .next s := by
  simp only [exec, execResetRelease, releaseReset, if_neg hf]

/-- STARTING is entered with the PWARN level noted, RESETn high and the blank check of J0 begun (R138, R140, R141). -/
theorem enterStarting_eq (s : State) :
    enterStarting s = { s with
      frontEnd := .starting, pwarnNoted := s.pwarn, resetnLow := false, scan := .blankCheck .j0,
      op := some (.blankCheck (.journal .j0)) } := rfl

/-- A transaction taken in STARTING brings no job choice: the sequencer has the scan to make (R43). -/
theorem chooseJob_takeTransaction_of_starting {s : State} (hf : s.frontEnd = .starting) (t : Transaction) :
    chooseJob (takeTransaction s t) = takeTransaction s t :=
  chooseJob_of_starting (by simp [hf])

/-- The release takes the transaction that waited longest in the state it enters (R137, R138). -/
theorem exec_resetRelease_takes {s : State} {t : Transaction} {rest : List Transaction} (hf : s.frontEnd = .inReset)
    (hp : s.port = .idle) (hb : s.bus = t :: rest) :
    exec .resetRelease s = .next (takeTransaction { enterStarting s with bus := rest, portAnswer := none } t) := by
  have hstart : (enterStarting s).frontEnd ≠ .inReset := by simp [enterStarting_eq]
  have hwait : (enterStarting s).bus = t :: rest := hb
  rw [exec_resetRelease_of_inReset hf, takeNextTransaction_takes (s := enterStarting s) hp hstart hwait]
  rw [chooseJob_takeTransaction_of_starting (by simp [enterStarting_eq])]

/-! ### The end of start-up -/

/-- Entering a drain without a line and with nothing queued, running or pending gives DRAINED at once (R147, R148). -/
theorem enterDraining_of_nothing {s : State} (hp : s.holdsForLine = false) (ha : s.ageList = []) (hq : s.commitQueue = [])
    (hj : s.job = none) (hn : s.nothingPending) : enterDraining s = { s with frontEnd := .drained } := by
  have hseal : sealAll { s with frontEnd := .draining } = { s with frontEnd := .draining } := by
    simp only [sealAll, linesByAge, ha, List.filter_nil, sealLines, List.foldl_nil]
  have hport : State.holdsForLine { s with frontEnd := .draining } = false := hp
  rw [enterDraining, drainEntry, hseal, refuseHeldForLine_eq, drainTest_eq, hport]
  have hmet : s.commitQueue = [] ∧ s.job = none ∧ s.nothingPending := ⟨hq, hj, hn⟩
  simp only [Bool.false_eq_true, if_false, true_and]
  rw [if_pos hmet]

theorem holdsForLine_of_portAwaitsStart {s : State} (h : s.portAwaitsStart = true) : s.holdsForLine = false := by
  unfold State.portAwaitsStart at h
  unfold State.holdsForLine
  cases hp : s.port with
  | held t k c n => cases c <;> simp_all
  | idle => rfl
  | commitWait t k i => rfl

/-- STARTING ends in READY, or in DRAINED where the noted PWARN level is asserted (R145, item 1). -/
theorem leaveStarting_of_nothing {s : State} (hp : s.portAwaitsStart = true) (ha : s.ageList = []) (hq : s.commitQueue = [])
    (hj : s.job = none) (hn : s.nothingPending) :
    leaveStarting s = { s with frontEnd := if s.pwarnNoted then .drained else .ready } := by
  unfold leaveStarting
  split
  · rw [enterDraining_of_nothing (holdsForLine_of_portAwaitsStart hp) ha hq hj hn]
  · rfl

/-- The state that the end of start-up leaves before it looks at the port (R32, R145). -/
theorem loadAgeTimer_leaveStarting_of_nothing {s : State} (hp : s.portAwaitsStart = true) (ha : s.ageList = [])
    (hq : s.commitQueue = []) (hj : s.job = none) (hn : s.nothingPending) :
    loadAgeTimer (leaveStarting { s with scan := .off }) = { s with
      scan := .off, frontEnd := if s.pwarnNoted then .drained else .ready, ageTimer := some (s.settings.tick * 50) } := by
  rw [leaveStarting_of_nothing (s := { s with scan := .off }) hp ha hq hj hn]
  rfl

theorem startHoldResume_of_idle {s : State} (hp : s.port = .idle) : startHoldResume s = s := by
  simp only [startHoldResume, hp]

theorem exec_endOfStartup {s : State} (hf : s.frontEnd = .starting) (hs : s.scan = .ended) :
    exec .endOfStartup s = .next (endStartup s) := by
  simp only [exec, execEndOfStartup, if_pos (And.intro hf hs)]

/-- Settles O7: the release takes what waits at the bus in STARTING, where no job choice is made; and the state that ends
start-up has nothing to start, so the held transaction's checks and one choice are all that follows. -/
theorem startUpBeginsAndEnds : Obligations.StartUpBeginsAndEnds := by
  intro s
  refine ⟨fun hf r hr => ?_, exec_resetRelease_of_ne, fun hf hp hj hq ha hn u hu => ?_⟩
  · have hr : enterStarting s = r := hr ▸ enterStarting_eq s
    have hstart : r.frontEnd = .starting := by rw [← hr, enterStarting_eq]
    have hkind : ∀ p, kindOf r p = kindOf s p := fun p => by rw [← hr]; rfl
    have hlimit : r.settings.holdLimit = s.settings.holdLimit := by rw [← hr]; rfl
    refine ⟨fun hwait => ?_, fun t rest hp hb => ?_⟩
    · have hwait : (enterStarting s).port ≠ .idle ∨ (enterStarting s).frontEnd = .inReset ∨ (enterStarting s).bus = [] :=
        hwait.elim (fun hb => Or.inr (Or.inr hb)) Or.inl
      rw [exec_resetRelease_of_inReset hf, takeNextTransaction_waits hwait, hr]
    · have htake := exec_resetRelease_takes hf hp hb
      rw [hr] at htake
      rw [htake, ← hkind, ← hlimit]
      refine ⟨fun hal => ?_, fun hal hk => ?_, fun hal hk hd => ?_, fun hal hk hro => ?_⟩
      · rw [takeTransaction_align hal]
        rfl
      · rw [takeTransaction_noAccess (s := { r with bus := rest, portAnswer := none }) hal hk]
        rfl
      · rw [takeTransaction_readOnly (s := { r with bus := rest, portAnswer := none }) hal hk hd]
        rfl
      · rw [takeTransaction_holds (s := { r with bus := rest, portAnswer := none }) hstart hal hk hro]
        rfl
  · have hleft : loadAgeTimer (leaveStarting { s with scan := .off }) = u :=
      hu ▸ loadAgeTimer_leaveStarting_of_nothing hp ha hq hj hn
    have hend : endStartup s = chooseJob (startHoldResume u) := by rw [endStartup, hleft]
    refine ⟨fun hidle => ?_, ?_, exec_endOfStartup hf⟩
    · have hidle : u.port = .idle := by rw [hu, hidle]
      have hnone : u.nothingToStart := Or.inr (by rw [hu]; exact ⟨hq, hn⟩)
      rw [hend, startHoldResume_of_idle hidle, chooseJob_of_nothingToStart hnone]
    · rw [exec_startHoldResume, hend]

end Sys2Proof.Machine
end

section
/-! PROOF. An accepted write is what reads return: the line that takes its bytes is the newest of its page, and neither the seal of that
line nor the choice after it moves a byte (R19, R23, R24, R85, R88). -/

namespace Sys2Proof.Machine
set_option Elab.async false

/-! ### The line that takes the bytes -/

/-- The byte of a transaction at a position it covers: that of the position's lane (R127). -/
def byteAt (t : Transaction) (x : Fin 64) : Byte := (t.data >>> (8 * (x.val % 4))).setWidth 8

/-- The lines of `u` give each byte that `t` covers as `t` has it, and every other byte as the lines of `s` do. -/
def State.showsWrite (s u : State) (t : Transaction) : Prop :=
  ∀ (p : PageNo) (x : Fin 64), lineByte u p x =
    if p = transactionPage t ∧ isCovered t x = true then some (byteAt t x) else lineByte s p x

theorem writtenOver_get (st : Staged) (t : Transaction) (x : Fin 64) :
    (writtenOver st t)[x] = if isCovered t x then some (byteAt t x) else st[x] := by
  simp [writtenOver, byteAt]

theorem showsWrite_of_sameLines {s v u : State} {t : Transaction} (h : s.showsWrite v t) (hu : v.sameLines u) :
    s.showsWrite u t := fun p x => (sameLines_lineByte hu p x).trans (h p x)

/-- A line that holds the write laid over what it gave before, with no line of its page after it in the age list, shows the write. -/
theorem showsWrite_of_newest {s u : State} {t : Transaction} {i : LineNo} {st : Staged} {older newer : List LineNo}
    (hage : u.ageList = older ++ i :: newer)
    (hnewest : ∀ k ∈ newer, u.lines[k].page ≠ some (transactionPage t))
    (hline : ∀ p x, lineByte s p x = u.ageList.reverse.findSome? (lineGives s p x))
    (hother : ∀ k : LineNo, k ≠ i → u.lines[k] = s.lines[k])
    (hbefore : ∀ p x, lineGives s p x i = if p = transactionPage t then st[x] else none)
    (hafter : ∀ p x, lineGives u p x i = if p = transactionPage t then (writtenOver st t)[x] else none) :
    s.showsWrite u t := by
  intro p x
  split
  · next hx =>
    obtain ⟨rfl, hcov⟩ := hx
    have hi : lineGives u (transactionPage t) x i = some (byteAt t x) := by
      rw [hafter, if_pos rfl, writtenOver_get, if_pos hcov]
    exact lineByte_of_newest hage hi fun k hk => lineGives_of_page_ne (hnewest k hk) x
  · next hx =>
    have hgives : lineGives u p x = lineGives s p x := by
      funext k
      by_cases hk : k = i
      · subst hk
        rw [hbefore, hafter]
        split
        · next hp => rw [writtenOver_get, if_neg fun hcov => hx ⟨hp, hcov⟩]
        · rfl
      · unfold lineGives
        rw [hother k hk]
    rw [lineByte_eq, hline, hgives]

/-- What a line in use gives, page by page. -/
theorem lineGives_of_held {s : State} {i : LineNo} {q : PageNo} (hs : s.lines[i].state ≠ .free) (hq : s.lines[i].page = some q)
    (p : PageNo) (x : Fin 64) : lineGives s p x i = if p = q then s.lines[i].staged[x] else none := by
  split
  · next hp => exact lineGives_of_used hs (hp ▸ hq) x
  · next hp => exact lineGives_of_page_ne (fun he => hp (Option.some.inj (he.symm.trans hq))) x

/-- A BUFFERED write is answered; a THROUGH write's line is sealed: reads find the same lines either way (R26, R27). -/
theorem acceptIntoLine_sameLines (s : State) (i : LineNo) (t : Transaction) (k : AccessKind) :
    s.sameLines (acceptIntoLine s i t k) := by
  have hthrough := updateLine_sameLines s i (f := fun l => { l with through := true }) fun _ => ⟨rfl, rfl, rfl⟩
  unfold acceptIntoLine
  split
  · exact sameLines_trans (sameLines_trans hthrough (sealLine_sameLines _ i)) (sameLines_of_eq rfl rfl)
  · exact sameLines_of_eq rfl rfl

theorem sealIfFull_sameLines (s : State) (i : LineNo) : s.sameLines (sealIfFull s i) := by
  unfold sealIfFull
  split
  · exact sealLine_sameLines s i
  · exact sameLines_refl s

/-- A line with the bytes of a write laid over its own (R23). -/
def mergedWith (t : Transaction) (l : Line) : Line := { l with staged := putBytes l.staged (writesOf t) }

/-- The OPEN line of the page is its newest, so the merged bytes are what reads find (R19, R23). -/
theorem mergeWrite_showsWrite {s : State} (hl : s.linesLaw) (hnew : s.openIsNewest) {i : LineNo} {t : Transaction}
    (hi : s.lines[i].state = .open) (hp : s.lines[i].page = some (transactionPage t)) (k : AccessKind) :
    s.showsWrite (mergeWrite s i t k) t := by
  have hused : s.lines[i].state ≠ .free := by simp [-Fin.getElem_fin, hi]
  obtain ⟨older, newer, hage⟩ := List.append_of_mem ((mem_ageList_iff hl).2 hused)
  have hlast : ∀ k ∈ newer, s.lines[k].page ≠ s.lines[i].page := fun k hk =>
    pairwise_iff_forall_split.1 hnew i older newer hage k hk hi
  have hget : (updateLine s i (mergedWith t)).lines[i] = { s.lines[i] with staged := writtenOver s.lines[i].staged t } := by
    rw [updateLine_get, if_pos rfl, mergedWith, putBytes_writesOf]
  have hput : s.showsWrite (updateLine s i (mergedWith t)) t := by
    refine showsWrite_of_newest (i := i) (st := s.lines[i].staged) hage (fun k hk => ?_) (fun _ _ => rfl) (fun k hk => ?_)
      (lineGives_of_held hused hp) fun p x => ?_
    · rw [(updateLine_sealsTo s i (f := mergedWith t) fun _ => ⟨rfl, rfl⟩).page, ← hp]
      exact hlast k hk
    · rw [updateLine_get, if_neg hk]
    · rw [lineGives_of_held (q := transactionPage t) (by rwa [hget]) (by rwa [hget]), hget]
  exact showsWrite_of_sameLines hput (sameLines_trans (sealIfFull_sameLines _ i) (acceptIntoLine_sameLines _ i t k))

/-- A line opened is the last of the age list, and gave nothing while it was FREE (R24). -/
theorem openForWrite_showsWrite {s : State} {i : LineNo} (hi : s.lines[i].state = .free) (t : Transaction) (k : AccessKind) :
    s.showsWrite (openForWrite s i t k) t := by
  have hnone : ∀ p x, lineGives s p x i = none := fun p x => lineGives_eq_none_iff.2 (Or.inl hi)
  have hopen : s.showsWrite (openLine s i (transactionPage t) (writesOf t)) t := by
    refine showsWrite_of_newest (i := i) (st := Vector.replicate 64 none) (older := s.ageList) (newer := []) rfl (by simp)
      (fun p x => ?_) (fun k hk => ?_) (fun p x => ?_) fun p x => ?_
    · rw [lineByte_eq, show (openLine s i (transactionPage t) (writesOf t)).ageList = s.ageList ++ [i] from rfl]
      simp [hnone]
    · rw [openLine_get, if_neg hk]
    · simp [hnone]
    · have hget := openLine_get s i i (transactionPage t) (writesOf t)
      rw [if_pos rfl, putBytes_writesOf] at hget
      rw [lineGives_of_held (q := transactionPage t) (by simp [-Fin.getElem_fin, hget]) (by rw [hget]), hget]
  exact showsWrite_of_sameLines hopen (acceptIntoLine_sameLines _ i t k)

/-! ### Acceptance -/

/-- The write `t` is accepted: answered OKAY, or waiting for the COMMIT of its line (R26, R27). -/
def State.accepts (s : State) (t : Transaction) : Prop :=
  s.portAnswer = some (.okay []) ∨ ∃ k i, s.port = .commitWait t k i

theorem not_accepts_of_refused {s : State} {t : Transaction} {r : Reason} (ha : s.portAnswer = some (.error r))
    (hp : s.port = .idle) : ¬ s.accepts t := by
  rintro (h | ⟨k, i, h⟩)
  · simp [ha] at h
  · simp [hp] at h

theorem not_accepts_refuse (s : State) (t : Transaction) (r : RefusedReason) : ¬ (refuse s t r).accepts t :=
  refuse_eq_afterRefusal s t r ▸ not_accepts_of_refused rfl rfl

theorem not_accepts_beginHold {s : State} (hn : s.portAnswer = none) (t : Transaction) (k : AccessKind) (c : HoldCause) :
    ¬ (beginHold s t k c).accepts t := by
  rintro (h | ⟨k', i, h⟩)
  · rw [show (beginHold s t k c).portAnswer = s.portAnswer from rfl, hn] at h
    cases h
  · cases h

/-- The staging buffer accepts a write by merging it or by opening a line for it (R22, R28). -/
theorem takeWrite_showsWrite {s : State} (hl : s.linesLaw) (hnew : s.openIsNewest) (hn : s.portAnswer = none) {t : Transaction}
    {k : AccessKind} (h : (takeWrite s t k).accepts t) : s.showsWrite (takeWrite s t k) t := by
  unfold takeWrite at h ⊢
  split at h
  · exact absurd h (not_accepts_refuse s t _)
  · next hb =>
    rw [if_neg hb]
    split at h
    · next i hi => exact mergeWrite_showsWrite hl hnew (openLineOf_spec hi).1 (openLineOf_spec hi).2 k
    · split at h
      · next i hi => exact openForWrite_showsWrite (freeLineNo_spec hi).1 t k
      · exact absurd h (not_accepts_beginHold (by simp [hn]) t k _)

/-- In READY a write is accepted by the staging buffer alone (R130). -/
theorem takeTransaction_showsWrite {s : State} (hl : s.linesLaw) (hnew : s.openIsNewest) (hn : s.portAnswer = none)
    (hf : s.frontEnd = .ready) {t : Transaction} (hd : t.direction = .write) (ha : passesAlignment t = true)
    (h : (takeTransaction s t).accepts t) : s.showsWrite (takeTransaction s t) t := by
  by_cases hno : kindOf s (transactionPage t) = .noAccess
  · rw [takeTransaction_noAccess ha hno] at h
    exact absurd h (not_accepts_of_refused rfl rfl)
  by_cases hro : kindOf s (transactionPage t) = .readOnly
  · rw [takeTransaction_readOnly ha hro hd] at h
    exact absurd h (not_accepts_of_refused rfl rfl)
  rw [takeTransaction_continues ha hno (fun hr => hro hr.1) (by simp [hf])] at h ⊢
  cases hq : isNamed s (sectorOf (transactionPage t)) with
  | true =>
    have hrefused : continueChecks s t (kindOf s (transactionPage t)) = refuse s t .quarantine := by
      simp [continueChecks, hd, hf, hq]
    rw [hrefused] at h
    exact absurd h (not_accepts_refuse s t _)
  | false =>
    rw [continueChecks_write hd hf hq] at h ⊢
    exact takeWrite_showsWrite hl hnew hn h

/-! ### The choice after the write -/

/-- Where a job runs or no recovery job is pending, the choice starts a COMMIT or nothing, and the buffer stays (R43, R46). -/
theorem chooseJob_buffer_of_nothingPending {s : State} (h : s.job.isSome = true ∨ s.nothingPending) :
    (chooseJob s).buffer = s.buffer := by
  cases hc : nextJob s with
  | none => rw [chooseJob_of_none hc]
  | some c =>
    have hnone : s.nothingPending := h.resolve_left (by simp [(idle_of_nextJob hc).1])
    have hpending : ∀ b, pendingChoice s b = none
      | .bank0 => pendingChoice_of_none hnone.1
      | .bank1 => pendingChoice_of_none hnone.2
    obtain ⟨b, hb⟩ | hhead := nextJob_eq_some hc
    · rw [hpending b] at hb
      cases hb
    · obtain ⟨i, rest, p, -, -, rfl⟩ := headChoice_eq_some hhead
      rw [chooseJob_eq hc]
      simp [startChoice]

/-- Settles O50: the staging buffer shows the write, the COMMIT that may start keeps the lines, and no layer below them moves. -/
theorem acceptedWriteIsReadBack : Obligations.AcceptedWriteIsReadBack := by
  intro s u t hl hpages hp hstart hf hd ha hexec haccept p x
  obtain ⟨⟨-, -, hnew⟩, -⟩ := pagesLaw_iff.1 hpages
  rw [exec_portTransaction_of_ready hp] at hexec
  obtain rfl := Host.Outcome.next.inj hexec
  generalize hv : takeTransaction { s with portAnswer := none } t = v at haccept ⊢
  have hlines : v.linesLaw := hv ▸ takeTransaction_linesLaw (s := { s with portAnswer := none }) hl t
  have haccept : v.accepts t := by simpa [State.accepts] using haccept
  have hshows : s.showsWrite (chooseJob v) t := by
    subst hv
    exact showsWrite_of_sameLines
      (takeTransaction_showsWrite (s := { s with portAnswer := none }) hl hnew rfl hf hd ha haccept)
      (chooseJob_sameLines (linesLaw_queueHeld hlines))
  have hkept : v.buffer = s.buffer ∧ v.cells = s.cells ∧ v.journals = s.journals ∧ v.quarantine = s.quarantine ∧ v.job = s.job := by
    subst hv
    simp
  obtain ⟨hbuffer, hcells, hjournals, hrecords, hjob⟩ := hkept
  have hchoice : (chooseJob v).buffer = s.buffer := by
    rw [chooseJob_buffer_of_nothingPending, hbuffer]
    rw [State.nothingPending, hjob, hrecords]
    exact hstart.imp_right And.right
  rw [readByte_eq_getD, readByte_eq_getD, hshows, bufferByte_congr hchoice,
    groundByte_congr (s := s) (by simp [hcells]) (by simp [hjournals]) (by simp [hrecords])]
  split <;> rfl

end Sys2Proof.Machine
end
